-- ==== Sys2Proof/Word.lean ====
section
/-! DEFINITION. The fixed-width words of the block: a byte, the 16-bit read data, a BUS word, a CMD byte. -/

namespace Sys2Proof

/-- A byte: `bus_wdata`, `rx_data`, `tx_data`, `dac_in` (R22, R23). -/
abbrev Byte := BitVec 8

/-- Read data of the register bus, `rdata[15:0]` (R23, R200). -/
abbrev ReadData := BitVec 16

/-- A logical register address, 0 to 15 (R22, R60). -/
abbrev RegAddr := BitVec 4

/-- A word of format BUS (R81): `en` [13], `we` [12], `addr` [11:8], `wdata` [7:0]. -/
abbrev BusWord := BitVec 14

/-- A word of format CMD (R82): ignored [7:5], `sel` [4:2], `mode` [1:0]. -/
abbrev CmdByte := BitVec 8

end Sys2Proof
end

