-- ==== Sys2Proof/Config.lean ====
section
/-! DEFINITION. What is fixed for a machine or left open by the spec: the configuration record `Cfg` (R8), the physical
parameters it comes from (R7), the firmware's open parameters, the input ports (R22), and the free values. -/

namespace Sys2Proof

/-- The configuration record of R8: the nine constants the hardware reads. -/
structure Cfg where
  /-- `res`: width of the output code in bits. -/
  res : Nat
  /-- `lut_width`: log2 of the number of table entries. -/
  lutWidth : Nat
  /-- `raw_mode`: the output is the truncated index, not the table entry. -/
  rawMode : Bool
  /-- `max_cnt`: number of the last tick of a charge window (R106). -/
  maxCnt : Nat
  /-- `discharge_cnt`: number of the last tick of a discharge (R107). -/
  dischargeCnt : Nat
  /-- `clk_shift_amt` (R108). -/
  clkShiftAmt : Nat
  /-- `conv_precision` (R109). -/
  convPrecision : Nat
  /-- `conv_factor` (R110). -/
  convFactor : Nat
  /-- `table[0 .. 2^lut_width - 1]`, a ROM (R21, R115). -/
  table : List Nat
  deriving DecidableEq, Repr

/-- The `RCCircuit` of R100 with the two remaining physical parameters of R7. The hardware never reads these. Rational numbers
stand for the reals of R7, so that validity is decidable (DESIGN CHOICE, log entry 22). -/
structure Primary where
  /-- `R`, ohms. -/
  r : Rat
  /-- `C`, farads. -/
  c : Rat
  /-- `Vdd`, volts. -/
  vdd : Rat
  /-- `Vref`, volts. -/
  vref : Rat
  /-- `Hz`, the clock frequency. -/
  hz : Rat
  /-- `thresh`, the offset threshold in volts, default 0. -/
  thresh : Rat := 0
  deriving DecidableEq, Repr

/-- The construction-time failures, by the names of R263. -/
inductive ConfigError where
  /-- `Config(domain)`: `charge_time` with `Vc_end ≥ Vdd` (R101): `Vref ≥ Vdd` (R102, R118 (a)), or the voltage of
  `thresh_digital` at or above `Vdd` (R111). -/
  | domain
  /-- `Config(invariant)`: `R ≤ 0`, `C ≤ 0` or `Vref ≤ 0` (R118 (a)). -/
  | invariant
  /-- `Config(width)`: `res < 1`, `lut_width < 1` or `lut_width > 16` (R118 (b)). -/
  | width
  /-- `Config(count)`: `max_cnt < 1` or `discharge_cnt < 1` (R118 (c)), which `Hz ≤ 0` gives (R106, R107). -/
  | count
  /-- `Config(shift)`: `bit_length(max_cnt) < lut_width` (R118 (d)). -/
  | shift
  /-- `Config(inconsistent)`: a derived integer is not as defined (R118 (e)). -/
  | inconsistent
  /-- `Config(index_range)`: `max_cnt >> clk_shift_amt = 2^(lut_width-1)` (R118 (f)). -/
  | indexRange
  /-- `Config(table)`: table length or an entry out of range (R118 (g)). -/
  | table
  deriving DecidableEq, Repr

/-- V2, entries 0 to 127. -/
def referenceTable0 : List Nat :=
  [0, 0, 0, 0, 1, 2, 3, 4, 5, 6, 6, 7, 8, 8, 9, 10] ++
  [10, 11, 12, 13, 13, 14, 15, 15, 16, 17, 17, 18, 19, 19, 20, 21] ++
  [21, 22, 23, 23, 24, 25, 25, 26, 26, 27, 28, 28, 29, 30, 30, 31] ++
  [32, 32, 33, 34, 34, 35, 36, 36, 37, 38, 38, 39, 39, 40, 41, 41] ++
  [42, 43, 43, 44, 45, 45, 46, 46, 47, 48, 48, 49, 50, 50, 51, 51] ++
  [52, 53, 53, 54, 55, 55, 56, 56, 57, 58, 58, 59, 59, 60, 61, 61] ++
  [62, 63, 63, 64, 64, 65, 66, 66, 67, 67, 68, 69, 69, 70, 70, 71] ++
  [72, 72, 73, 73, 74, 75, 75, 76, 76, 77, 77, 78, 79, 79, 80, 80]

/-- V2, entries 128 to 255. -/
def referenceTable1 : List Nat :=
  [81, 82, 82, 83, 83, 84, 84, 85, 86, 86, 87, 87, 88, 88, 89, 90] ++
  [90, 91, 91, 92, 92, 93, 94, 94, 95, 95, 96, 96, 97, 98, 98, 99] ++
  [99, 100, 100, 101, 101, 102, 103, 103, 104, 104, 105, 105, 106, 106, 107, 108] ++
  [108, 109, 109, 110, 110, 111, 111, 112, 112, 113, 113, 114, 115, 115, 116, 116] ++
  [117, 117, 118, 118, 119, 119, 120, 120, 121, 121, 122, 123, 123, 124, 124, 125] ++
  [125, 126, 126, 127, 127, 128, 128, 129, 129, 130, 130, 131, 131, 132, 132, 133] ++
  [133, 134, 134, 135, 135, 136, 136, 137, 138, 138, 139, 139, 140, 140, 141, 141] ++
  [142, 142, 143, 143, 144, 144, 145, 145, 146, 146, 147, 147, 147, 148, 148, 149]

/-- V2, entries 256 to 383. -/
def referenceTable2 : List Nat :=
  [149, 150, 150, 151, 151, 152, 152, 153, 153, 154, 154, 155, 155, 156, 156, 157] ++
  [157, 158, 158, 159, 159, 160, 160, 161, 161, 162, 162, 162, 163, 163, 164, 164] ++
  [165, 165, 166, 166, 167, 167, 168, 168, 169, 169, 169, 170, 170, 171, 171, 172] ++
  [172, 173, 173, 174, 174, 175, 175, 175, 176, 176, 177, 177, 178, 178, 179, 179] ++
  [180, 180, 180, 181, 181, 182, 182, 183, 183, 184, 184, 184, 185, 185, 186, 186] ++
  [187, 187, 188, 188, 188, 189, 189, 190, 190, 191, 191, 191, 192, 192, 193, 193] ++
  [194, 194, 194, 195, 195, 196, 196, 197, 197, 197, 198, 198, 199, 199, 200, 200] ++
  [200, 201, 201, 202, 202, 202, 203, 203, 204, 204, 205, 205, 205, 206, 206, 207]

/-- V2, entries 384 to 511. -/
def referenceTable3 : List Nat :=
  [207, 207, 208, 208, 209, 209, 210, 210, 210, 211, 211, 212, 212, 212, 213, 213] ++
  [214, 214, 214, 215, 215, 216, 216, 216, 217, 217, 218, 218, 218, 219, 219, 220] ++
  [220, 220, 221, 221, 222, 222, 222, 223, 223, 224, 224, 224, 225, 225, 225, 226] ++
  [226, 227, 227, 227, 228, 228, 229, 229, 229, 230, 230, 230, 231, 231, 232, 232] ++
  [232, 233, 233, 233, 234, 234, 235, 235, 235, 236, 236, 236, 237, 237, 238, 238] ++
  [238, 239, 239, 239, 240, 240, 241, 241, 241, 242, 242, 242, 243, 243, 243, 244] ++
  [244, 245, 245, 245, 246, 246, 246, 247, 247, 247, 248, 248, 248, 249, 249, 250] ++
  [250, 250, 251, 251, 251, 252, 252, 252, 253, 253, 253, 254, 254, 254, 255, 255]

/-- The reference table of V2, rebuilt from R100 to R115 by the spec. -/
def referenceTable : List Nat := referenceTable0 ++ referenceTable1 ++ referenceTable2 ++ referenceTable3

/-- The reference configuration of R7 and R8 (V1, V2), in table mode. -/
def Cfg.reference : Cfg where
  res := 8
  lutWidth := 9
  rawMode := false
  maxCnt := 740
  dischargeCnt := 6404
  clkShiftAmt := 1
  convPrecision := 7
  convFactor := 177
  table := referenceTable

/-- The physical parameters of the reference configuration (R7). -/
def Primary.reference : Primary where
  r := 99600
  c := mkRat 893 (10 ^ 12)
  vdd := mkRat 33 10
  vref := mkRat 33 20
  hz := 12000000

/-- The toy configuration of V3, for short traces. -/
def Cfg.toy : Cfg where
  res := 2
  lutWidth := 2
  rawMode := false
  maxCnt := 6
  dischargeCnt := 3
  clkShiftAmt := 1
  convPrecision := 14
  convFactor := 21845
  table := [0, 1, 2, 3]

/-- The ADC fields a host can read: ADC_VAL_COPY, ADC_IDX_COPY, ADC_CNT_COPY (addresses 6, 7, 8). -/
inductive AdcField where
  | val
  | idx
  | cnt
  deriving DecidableEq, Repr, Inhabited

/-- The register `WIDE_FIELD_ADDR ∈ {7, 8}` (R238, D27). -/
inductive WideField where
  | idx
  | cnt
  deriving DecidableEq, Repr, Inhabited

/-- The firmware's open parameters. A model of the host takes them as arguments (R9). -/
structure HostParams where
  /-- `BURST_LEN - 1`: so that every value satisfies `BURST_LEN ≥ 1` (R240, D31). -/
  burstLenMinus1 : Nat
  /-- `WIDE_FIELD_ADDR` (R238, D27). -/
  wideField : WideField
  /-- Which ADC field the firmware reads into `adc_val` in mode 3, where it sends none of it. R232 says that it reads one and
  not which (N15); any of the three (DESIGN CHOICE, safe: open, log entry 9). -/
  noneField : AdcField
  deriving DecidableEq, Repr, Inhabited

/-- `BURST_LEN` (R240). -/
def HostParams.burstLen (p : HostParams) : Nat := p.burstLenMinus1 + 1

/-- The input ports of one tick (R22), and whose turn the bus is. -/
structure Inputs where
  /-- `rst`: synchronous reset request (R290). -/
  rst : Bool
  /-- `sense`: comparator output, false (0) = the node has crossed the reference (R131). -/
  sense : Bool
  /-- `start`: start request, a level (R135). -/
  start : Bool
  /-- `dac_in`: the sweep generator's byte (R272). -/
  dacIn : Byte
  /-- `bus_en`: a bus command is presented this tick. -/
  busEn : Bool
  /-- `bus_we`: write, not read. -/
  busWe : Bool
  /-- `bus_addr`: logical register address. -/
  busAddr : RegAddr
  /-- `bus_wdata`: write data. -/
  busWdata : Byte
  /-- `rx_rdy`: a received byte is available. -/
  rxRdy : Bool
  /-- `rx_data`: last received byte. -/
  rxData : Byte
  /-- `tx_ack`: transmitter ready for the next byte. -/
  txAck : Bool
  /-- The model's own (DESIGN CHOICE, log entry 6): the documented firmware drives the bus in this tick, in place of the
  four `bus` ports above. It stands for the unspecified schedule of R230 and R312. -/
  hostTurn : Bool
  deriving DecidableEq, Repr, Inhabited

/-- Every input low: the serial inputs as R91 has them when omitted, and NOP on the bus. -/
def Inputs.quiet : Inputs where
  rst := false
  sense := false
  start := false
  dacIn := 0
  busEn := false
  busWe := false
  busAddr := 0
  busWdata := 0
  rxRdy := false
  rxData := 0
  txAck := false
  hostTurn := false

/-- FREE VALUE `RESERVED_READ` (R215, U1): the data of a reserved read, a fresh draw per read. -/
opaque Config.reservedRead : Nat → ReadData

/-- FREE VALUE (U11): `o.rdata` in a tick without a read command (R200). -/
opaque Config.idleRdata : Nat → ReadData

/-- FREE VALUE (U11): `o.tx_data` in a tick without a write of address 3 (R208). -/
opaque Config.idleTxData : Nat → Byte

/-- FREE VALUE: the inputs of a tick for which no stimulus is known (R131, R271, R272, R312). -/
opaque Config.freeInputs : Nat → Inputs

/-- FREE VALUE: a table entry past the table's end, which R175 says is never read (log entry 12). -/
opaque Config.offTable : Nat → Nat

/-- FREE VALUE: the open host parameters of the machine after reset (D27, D31). -/
opaque Config.hostParams : HostParams

end Sys2Proof
end

