-- ==== Sys2Proof/Syntax.lean ====
section
/-! DEFINITION. Instr: one constructor per row of spec/opcode_table.json (37 rows: 33 of format BUS, 4 of format CMD). A
constructor carries every bit its row leaves unfixed, the ignored ones too, so that no bit of an encoding is dropped. -/

namespace Sys2Proof

/-- The operations that have an encoding (R80): the bus commands of R85 and the host command bytes of R82. In a read,
`wdata` is ignored by the block (R81); in a host command byte, `ign` is bits [7:5], ignored (R89 (b)). -/
inductive Instr where
  /-- `en = 0`: no command; `we`, `addr`, `wdata` ignored (R202). -/
  | nop (we : Bool) (addr : RegAddr) (wdata : Byte)
  /-- Read of address 0, UART_RX_RDY (R205). -/
  | rdUartRxRdy (wdata : Byte)
  /-- Read of address 1, UART_RX_DATA (R206). -/
  | rdUartRxData (wdata : Byte)
  /-- Read of address 2, UART_TX_ACK (R207). -/
  | rdUartTxAck (wdata : Byte)
  /-- Reserved read of address 3 (R215). -/
  | rdReserved3 (wdata : Byte)
  /-- Read of address 4, SAMPLE_RDY, clear-on-read (R210). -/
  | rdSampleRdy (wdata : Byte)
  /-- Read of address 5, DAC_VAL_COPY (R211). -/
  | rdDacValCopy (wdata : Byte)
  /-- Read of address 6, ADC_VAL_COPY (R212). -/
  | rdAdcValCopy (wdata : Byte)
  /-- Read of address 7, ADC_IDX_COPY (R213). -/
  | rdAdcIdxCopy (wdata : Byte)
  /-- Read of address 8, ADC_CNT_COPY (R214). -/
  | rdAdcCntCopy (wdata : Byte)
  /-- Reserved read of address 9 (R215). -/
  | rdReserved9 (wdata : Byte)
  /-- Reserved read of address 10 (R215). -/
  | rdReserved10 (wdata : Byte)
  /-- Reserved read of address 11 (R215). -/
  | rdReserved11 (wdata : Byte)
  /-- Reserved read of address 12 (R215). -/
  | rdReserved12 (wdata : Byte)
  /-- Reserved read of address 13 (R215). -/
  | rdReserved13 (wdata : Byte)
  /-- Reserved read of address 14 (R215). -/
  | rdReserved14 (wdata : Byte)
  /-- Reserved read of address 15 (R215). -/
  | rdReserved15 (wdata : Byte)
  /-- Reserved write to address 0 (R216). -/
  | wrReserved0 (wdata : Byte)
  /-- Reserved write to address 1 (R216). -/
  | wrReserved1 (wdata : Byte)
  /-- Reserved write to address 2 (R216). -/
  | wrReserved2 (wdata : Byte)
  /-- Write of address 3, UART_TX_DATA: `wdata` is the byte to transmit (R208). -/
  | wrUartTxData (wdata : Byte)
  /-- Reserved write to address 4 (R216). -/
  | wrReserved4 (wdata : Byte)
  /-- Reserved write to address 5 (R216). -/
  | wrReserved5 (wdata : Byte)
  /-- Reserved write to address 6 (R216). -/
  | wrReserved6 (wdata : Byte)
  /-- Reserved write to address 7 (R216). -/
  | wrReserved7 (wdata : Byte)
  /-- Reserved write to address 8 (R216). -/
  | wrReserved8 (wdata : Byte)
  /-- Reserved write to address 9 (R216). -/
  | wrReserved9 (wdata : Byte)
  /-- Reserved write to address 10 (R216). -/
  | wrReserved10 (wdata : Byte)
  /-- Reserved write to address 11 (R216). -/
  | wrReserved11 (wdata : Byte)
  /-- Reserved write to address 12 (R216). -/
  | wrReserved12 (wdata : Byte)
  /-- Reserved write to address 13 (R216). -/
  | wrReserved13 (wdata : Byte)
  /-- Reserved write to address 14 (R216). -/
  | wrReserved14 (wdata : Byte)
  /-- Reserved write to address 15 (R216). -/
  | wrReserved15 (wdata : Byte)
  /-- Host command byte, mode 0, "val" (R237). -/
  | xferVal (ign sel : BitVec 3)
  /-- Host command byte, mode 1, "idx_or_cmp" (R238). -/
  | xferIdxOrCmp1 (ign sel : BitVec 3)
  /-- Host command byte, mode 2, "idx_or_cmp", second encoding (R238). -/
  | xferIdxOrCmp2 (ign sel : BitVec 3)
  /-- Host command byte, mode 3, "none" (R239). -/
  | xferNone (ign sel : BitVec 3)
  deriving DecidableEq, Repr

/-- The two encoding formats (R81, R82). -/
inductive Format where
  | bus
  | cmd
  deriving DecidableEq, Repr

/-- The format of an operation. -/
def Instr.format : Instr → Format
  | .xferVal _ _ => .cmd
  | .xferIdxOrCmp1 _ _ => .cmd
  | .xferIdxOrCmp2 _ _ => .cmd
  | .xferNone _ _ => .cmd
  | .nop _ _ _ => .bus
  | .rdUartRxRdy _ => .bus
  | .rdUartRxData _ => .bus
  | .rdUartTxAck _ => .bus
  | .rdReserved3 _ => .bus
  | .rdSampleRdy _ => .bus
  | .rdDacValCopy _ => .bus
  | .rdAdcValCopy _ => .bus
  | .rdAdcIdxCopy _ => .bus
  | .rdAdcCntCopy _ => .bus
  | .rdReserved9 _ => .bus
  | .rdReserved10 _ => .bus
  | .rdReserved11 _ => .bus
  | .rdReserved12 _ => .bus
  | .rdReserved13 _ => .bus
  | .rdReserved14 _ => .bus
  | .rdReserved15 _ => .bus
  | .wrReserved0 _ => .bus
  | .wrReserved1 _ => .bus
  | .wrReserved2 _ => .bus
  | .wrUartTxData _ => .bus
  | .wrReserved4 _ => .bus
  | .wrReserved5 _ => .bus
  | .wrReserved6 _ => .bus
  | .wrReserved7 _ => .bus
  | .wrReserved8 _ => .bus
  | .wrReserved9 _ => .bus
  | .wrReserved10 _ => .bus
  | .wrReserved11 _ => .bus
  | .wrReserved12 _ => .bus
  | .wrReserved13 _ => .bus
  | .wrReserved14 _ => .bus
  | .wrReserved15 _ => .bus

/-- The bytes an operation of this format takes in the model's layout (log entry 14). -/
def Format.bytes : Format → Nat
  | .bus => 2
  | .cmd => 1

end Sys2Proof
end

