-- ==== Sys2Proof/Decode.lean ====
section
/-! DEFINITION. The decoder, total on any bytes, and the encoder, from R81, R82, R85 and R88. The layout of a word as bytes
is the model's own (the ports and the serial line have none): a BUS word is two bytes, low byte first, its bits [15:14]
zero; a CMD byte is one byte (DESIGN CHOICE, log entry 14). -/

namespace Sys2Proof

/-- Why bytes are no operation of either format. -/
inductive DecodeError where
  /-- Neither one byte (CMD) nor two (BUS). -/
  | badLength (n : Nat)
  /-- Two bytes with a bit above the 14-bit BUS word set. -/
  | bitsAboveBusWord (hi : Byte)
  deriving DecidableEq, Repr

/-! ## Fields -/

/-- The concatenation of the four bus ports (R81). -/
def busWord (en we : Bool) (addr : RegAddr) (wdata : Byte) : BusWord :=
  BitVec.ofBool en ++ BitVec.ofBool we ++ addr ++ wdata

/-- Field `en`, bit [13]. -/
def BusWord.en (w : BusWord) : Bool := w.getLsbD 13

/-- Field `we`, bit [12]. -/
def BusWord.we (w : BusWord) : Bool := w.getLsbD 12

/-- Field `addr`, bits [11:8]. -/
def BusWord.addr (w : BusWord) : RegAddr := w.extractLsb' 8 4

/-- Field `wdata`, bits [7:0]. -/
def BusWord.wdata (w : BusWord) : Byte := w.extractLsb' 0 8

/-- The bits of a CMD byte, put together (R82). -/
def cmdByte (ign sel : BitVec 3) (mode : BitVec 2) : CmdByte := ign ++ sel ++ mode

/-- Bits [7:5], ignored (R89 (b)). -/
def CmdByte.ign (b : CmdByte) : BitVec 3 := b.extractLsb' 5 3

/-- Field `sel`, bits [4:2] (R84). -/
def CmdByte.sel (b : CmdByte) : BitVec 3 := b.extractLsb' 2 3

/-- Field `mode`, bits [1:0] (R84). -/
def CmdByte.mode (b : CmdByte) : BitVec 2 := b.extractLsb' 0 2

/-! ## Decoding -/

/-- The read command of an address (R85, R88 (a)). -/
def decodeRead (addr : RegAddr) (wdata : Byte) : Instr :=
  match addr.toNat with
  | 0 => .rdUartRxRdy wdata
  | 1 => .rdUartRxData wdata
  | 2 => .rdUartTxAck wdata
  | 3 => .rdReserved3 wdata
  | 4 => .rdSampleRdy wdata
  | 5 => .rdDacValCopy wdata
  | 6 => .rdAdcValCopy wdata
  | 7 => .rdAdcIdxCopy wdata
  | 8 => .rdAdcCntCopy wdata
  | 9 => .rdReserved9 wdata
  | 10 => .rdReserved10 wdata
  | 11 => .rdReserved11 wdata
  | 12 => .rdReserved12 wdata
  | 13 => .rdReserved13 wdata
  | 14 => .rdReserved14 wdata
  | _ => .rdReserved15 wdata

/-- The write command of an address (R85, R88 (b)). -/
def decodeWrite (addr : RegAddr) (wdata : Byte) : Instr :=
  match addr.toNat with
  | 0 => .wrReserved0 wdata
  | 1 => .wrReserved1 wdata
  | 2 => .wrReserved2 wdata
  | 3 => .wrUartTxData wdata
  | 4 => .wrReserved4 wdata
  | 5 => .wrReserved5 wdata
  | 6 => .wrReserved6 wdata
  | 7 => .wrReserved7 wdata
  | 8 => .wrReserved8 wdata
  | 9 => .wrReserved9 wdata
  | 10 => .wrReserved10 wdata
  | 11 => .wrReserved11 wdata
  | 12 => .wrReserved12 wdata
  | 13 => .wrReserved13 wdata
  | 14 => .wrReserved14 wdata
  | _ => .wrReserved15 wdata

/-- The bus command of a BUS word: total over all 2^14 words (R85, R86). -/
def decodeBus (w : BusWord) : Instr :=
  if BusWord.en w then
    if BusWord.we w then decodeWrite (BusWord.addr w) (BusWord.wdata w)
    else decodeRead (BusWord.addr w) (BusWord.wdata w)
  else .nop (BusWord.we w) (BusWord.addr w) (BusWord.wdata w)

/-- The host command of a CMD byte: total over all 2^8 bytes (R82, R86). -/
def decodeCmd (b : CmdByte) : Instr :=
  match (CmdByte.mode b).toNat with
  | 0 => .xferVal (CmdByte.ign b) (CmdByte.sel b)
  | 1 => .xferIdxOrCmp1 (CmdByte.ign b) (CmdByte.sel b)
  | 2 => .xferIdxOrCmp2 (CmdByte.ign b) (CmdByte.sel b)
  | _ => .xferNone (CmdByte.ign b) (CmdByte.sel b)

/-- The operation a list of bytes holds, or why it holds none. -/
def decode : List Byte → Except DecodeError Instr
  | [b] => .ok (decodeCmd b)
  | [lo, hi] =>
    if hi.toNat < 64 then .ok (decodeBus (hi.extractLsb' 0 6 ++ lo)) else .error (.bitsAboveBusWord hi)
  | bs => .error (.badLength bs.length)

/-! ## Encoding -/

/-- The two bytes of a BUS word, low byte first. -/
def BusWord.toBytes (w : BusWord) : List Byte := [w.extractLsb' 0 8, (w.extractLsb' 8 6).setWidth 8]

/-- The bytes of an operation, from the rows of R85, R88 and R82. -/
def encode : Instr → List Byte
  | .nop we addr wdata => BusWord.toBytes (busWord false we addr wdata)
  | .rdUartRxRdy wdata => BusWord.toBytes (busWord true false 0 wdata)
  | .rdUartRxData wdata => BusWord.toBytes (busWord true false 1 wdata)
  | .rdUartTxAck wdata => BusWord.toBytes (busWord true false 2 wdata)
  | .rdReserved3 wdata => BusWord.toBytes (busWord true false 3 wdata)
  | .rdSampleRdy wdata => BusWord.toBytes (busWord true false 4 wdata)
  | .rdDacValCopy wdata => BusWord.toBytes (busWord true false 5 wdata)
  | .rdAdcValCopy wdata => BusWord.toBytes (busWord true false 6 wdata)
  | .rdAdcIdxCopy wdata => BusWord.toBytes (busWord true false 7 wdata)
  | .rdAdcCntCopy wdata => BusWord.toBytes (busWord true false 8 wdata)
  | .rdReserved9 wdata => BusWord.toBytes (busWord true false 9 wdata)
  | .rdReserved10 wdata => BusWord.toBytes (busWord true false 10 wdata)
  | .rdReserved11 wdata => BusWord.toBytes (busWord true false 11 wdata)
  | .rdReserved12 wdata => BusWord.toBytes (busWord true false 12 wdata)
  | .rdReserved13 wdata => BusWord.toBytes (busWord true false 13 wdata)
  | .rdReserved14 wdata => BusWord.toBytes (busWord true false 14 wdata)
  | .rdReserved15 wdata => BusWord.toBytes (busWord true false 15 wdata)
  | .wrReserved0 wdata => BusWord.toBytes (busWord true true 0 wdata)
  | .wrReserved1 wdata => BusWord.toBytes (busWord true true 1 wdata)
  | .wrReserved2 wdata => BusWord.toBytes (busWord true true 2 wdata)
  | .wrUartTxData wdata => BusWord.toBytes (busWord true true 3 wdata)
  | .wrReserved4 wdata => BusWord.toBytes (busWord true true 4 wdata)
  | .wrReserved5 wdata => BusWord.toBytes (busWord true true 5 wdata)
  | .wrReserved6 wdata => BusWord.toBytes (busWord true true 6 wdata)
  | .wrReserved7 wdata => BusWord.toBytes (busWord true true 7 wdata)
  | .wrReserved8 wdata => BusWord.toBytes (busWord true true 8 wdata)
  | .wrReserved9 wdata => BusWord.toBytes (busWord true true 9 wdata)
  | .wrReserved10 wdata => BusWord.toBytes (busWord true true 10 wdata)
  | .wrReserved11 wdata => BusWord.toBytes (busWord true true 11 wdata)
  | .wrReserved12 wdata => BusWord.toBytes (busWord true true 12 wdata)
  | .wrReserved13 wdata => BusWord.toBytes (busWord true true 13 wdata)
  | .wrReserved14 wdata => BusWord.toBytes (busWord true true 14 wdata)
  | .wrReserved15 wdata => BusWord.toBytes (busWord true true 15 wdata)
  | .xferVal ign sel => [cmdByte ign sel 0]
  | .xferIdxOrCmp1 ign sel => [cmdByte ign sel 1]
  | .xferIdxOrCmp2 ign sel => [cmdByte ign sel 2]
  | .xferNone ign sel => [cmdByte ign sel 3]

/-! ## The table's numbering -/

/-- `n` bytes of a number, low byte first. -/
def bytesOf (n w : Nat) : List Byte := (List.range n).map fun k => BitVec.ofNat 8 (w >>> (8 * k))

/-- The operation the decoder reads from the bits `w` of an instruction whose table row has `nbits` bits: the bytes laid
out low byte first, bits above them refused. -/
def decodeTableWord (nbits w : Nat) : Option Instr :=
  let n := (nbits + 7) / 8
  if w < 2 ^ (8 * n) then (decode (bytesOf n w)).toOption else none

end Sys2Proof
end

