-- ==== Sys2Proof/Machine/State.lean ====
section
/-! DEFINITION. The state of the machine: the block's registers (R45), the configuration constants (R8), the ports (R22,
R23), the host's own state (R231), and the model's counters. Registers whose width depends on the configuration are naturals
with the invariant of Safety.lean (R151, D4; log entry 11). -/

namespace Sys2Proof.Machine

/-- The engine's two phases (R25). -/
inductive Phase where
  | discharging
  | charging
  deriving DecidableEq, Repr

/-- The conversion engine's registers (R24 to R32, R41, R42). -/
structure Engine where
  /-- `phase` (R25). -/
  phase : Phase
  /-- `up_cnt`: ticks of the current charge window (R26). -/
  upCnt : Nat
  /-- `down_cnt`: ticks of the current discharge (R27). -/
  downCnt : Nat
  /-- `sync0`: first synchronizer stage (R41). -/
  sync0 : Bool
  /-- `sync1`: second synchronizer stage, the engine's `cmp` (R41, R130). -/
  sync1 : Bool
  /-- `zero_run`: the debounce counter, 0 to 2 (R42). -/
  zeroRun : Nat
  /-- `latched`: a value has been latched in this conversion (R31). -/
  latched : Bool
  /-- `avail`: the register behind output `avail` (R32). -/
  avail : Bool
  /-- `raw_index`: the latched table index (R29). -/
  rawIndex : Nat
  /-- `raw_cnt`: the count at the latch (R30). -/
  rawCnt : Nat
  deriving DecidableEq, Repr

/-- The status block's registers (R35 to R39). -/
structure Status where
  /-- `sample_rdy`, address 4 (R35). -/
  sampleRdy : Bool
  /-- `dac_val_copy`, address 5 (R36). -/
  dacValCopy : Byte
  /-- `adc_val_copy`, address 6 (R37). -/
  adcValCopy : Nat
  /-- `adc_idx_copy`, address 7 (R38). -/
  adcIdxCopy : Nat
  /-- `adc_cnt_copy`, address 8 (R39). -/
  adcCntCopy : Nat
  deriving DecidableEq, Repr

/-- The output ports of one tick (R23). -/
structure Outputs where
  charge : Bool
  done : Bool
  avail : Bool
  /-- `val`, `res` bits. -/
  val : Nat
  rdata : ReadData
  txData : Byte
  txWe : Bool
  serRd : BitVec 3
  deriving DecidableEq, Repr

/-- The firmware's four stages (R231). -/
inductive Stage where
  | idle
  | loadDac
  | loadAdc
  | waitOrFinish
  deriving DecidableEq, Repr

/-- The bytes the firmware sends per sample (R235 to R238). -/
inductive SendByte where
  | dac
  | adcLow
  | adcHigh
  deriving DecidableEq, Repr

/-- The bus command the firmware issues next, within the primitives of R232. -/
inductive Point where
  /-- Receive a byte: `poll 0 until 1`. -/
  | pollRx
  /-- Receive a byte: `RD_UART_RX_DATA`. -/
  | readRx
  /-- Wait for a sample: `poll 4 until 1`. -/
  | pollSample
  /-- Wait for a sample: `RD_DAC_VAL_COPY` into `dac_val`. -/
  | readDac
  /-- Wait for a sample: the read of the ADC field into `adc_val`. -/
  | readAdc (f : AdcField)
  /-- Send a byte: `poll 2 until 1`. -/
  | pollTx (b : SendByte)
  /-- Send a byte: `WR_UART_TX_DATA`. -/
  | send (b : SendByte)
  deriving DecidableEq, Repr

/-- The host's state, "FirmwareState" (R231), with the place it has reached in its current primitive. -/
structure Firmware where
  /-- `stage`. -/
  stage : Stage
  /-- The command it issues next (the model's own, log entry 7). -/
  point : Point
  /-- `xfer_type`: last received command byte. -/
  xferType : CmdByte
  /-- `count`: samples emitted since the last command. -/
  count : Nat
  /-- `dac_val`. -/
  dacVal : Byte
  /-- `adc_val`, 16 bits. -/
  adcVal : ReadData
  deriving DecidableEq, Repr

/-- The machine's state. -/
structure State where
  /-- The configuration, a constant (R8, R21). -/
  cfg : Cfg
  /-- The firmware's open parameters, constants (R9). -/
  params : HostParams
  /-- The conversion engine (R24 to R32, R41, R42). -/
  engine : Engine
  /-- The status block (R35 to R39). -/
  status : Status
  /-- The host (R231). -/
  fw : Firmware
  /-- The input ports, as the coming tick samples them (R22). -/
  pins : Inputs
  /-- The output ports, as the last tick drove them (R23). -/
  out : Outputs
  /-- The inputs of the following ticks, as far as they are known. -/
  stim : List Inputs
  /-- Ticks taken so far; selects the tick's free values. -/
  draws : Nat
  deriving DecidableEq, Repr

/-- What stops the machine with a fault: nothing. The block has no exception, fault output or error state, and TICK is total
on every state and input (R260), so the type is empty. -/
inductive Fault
  deriving DecidableEq, Repr

/-- Why the machine refuses to go on. -/
inductive Refusal where
  /-- Raised by an arm of `exec` that has no meaning yet (none is left). Safe. -/
  | notModelled (mnemonic : String)
  /-- Raised by `step` on an invalid configuration: no hardware exists for it (R118, R263). Safe. -/
  | config (reason : ConfigError)
  /-- Raised by a host command byte with `sel` 5, 6 or 7: a model of the host must refuse it (R89 (a), U2). Safe. -/
  | selectorOpen (sel : BitVec 3)
  /-- Raised by `step` if the fetched bytes were no operation. A fetch never gives such bytes. Safe. -/
  | undecodable (e : DecodeError)
  deriving DecidableEq, Repr

/-- The engine after reset (R45). -/
def Engine.reset : Engine where
  phase := .discharging
  upCnt := 0
  downCnt := 0
  sync0 := false
  sync1 := false
  zeroRun := 0
  latched := false
  avail := false
  rawIndex := 0
  rawCnt := 0

/-- The status block after reset (R45). -/
def Status.reset : Status where
  sampleRdy := false
  dacValCopy := 0
  adcValCopy := 0
  adcIdxCopy := 0
  adcCntCopy := 0

/-- No output driven yet: every port 0 (DESIGN CHOICE, log entry 4). -/
def Outputs.quiet : Outputs where
  charge := false
  done := false
  avail := false
  val := 0
  rdata := 0
  txData := 0
  txWe := false
  serRd := 0

/-- The host at the start: stage IDLE, count 0 (R231), about to poll for a command byte (R233). The three data fields are 0
(DESIGN CHOICE, unsafe, log entry 2). -/
def Firmware.reset : Firmware where
  stage := .idle
  point := .pollRx
  xferType := 0
  count := 0
  dacVal := 0
  adcVal := 0

/-- The machine right after reset: the block as R45 says; the reference configuration (DESIGN CHOICE, log entry 1), open
host parameters, quiet first inputs (DESIGN CHOICE, log entry 3), and free inputs after them. -/
def State.reset : State where
  cfg := Cfg.reference
  params := Config.hostParams
  engine := Engine.reset
  status := Status.reset
  fw := Firmware.reset
  pins := Inputs.quiet
  out := Outputs.quiet
  stim := []
  draws := 0

end Sys2Proof.Machine
end

