-- ==== Sys2Proof/Machine/Flags.lean ====
section
/-! DEFINITION. The conditions and flags of a tick, each a function of the snapshot. -/

namespace Sys2Proof.Machine

/-- `cmp`, the synchronized comparator reading of this tick (R130); false (0) means the node has crossed (R131). -/
def Engine.cmp (e : Engine) : Bool := e.sync1

/-- `o.charge` (R170). -/
def Engine.chargeOut (e : Engine) : Bool := decide (e.phase = .charging)

/-- `o.done`: the last tick of a discharge (R134, R171). -/
def Engine.doneOut (c : Cfg) (e : Engine) : Bool :=
  decide (e.phase = .discharging) && decide (e.downCnt = c.dischargeCnt)

/-- `hit`: the second consecutive low reading of the window, nothing latched yet (R141). -/
def Engine.hit (e : Engine) : Bool :=
  decide (e.phase = .charging) && !e.cmp && decide (e.zeroRun = 1) && !e.latched

/-- The timeout tick, the last of a charge window (R139). -/
def Engine.timeout (c : Cfg) (e : Engine) : Bool :=
  decide (e.phase = .charging) && decide (e.upCnt = c.maxCnt)

/-- The window ends with nothing latched and no hit (R146). -/
def Engine.neverTrip (c : Cfg) (e : Engine) : Bool := e.timeout c && !e.latched && !e.hit

/-- `strobe`: the done tick of a finished conversion (R190). -/
def Engine.strobe (c : Cfg) (e : Engine) : Bool := e.doneOut c && e.avail

/-- `zero_run` after a CHARGING tick that is not the timeout tick (R140): capped at 2. -/
def Engine.nextRun (e : Engine) : Nat := if e.cmp then 0 else min (e.zeroRun + 1) 2

end Sys2Proof.Machine
end

