-- ==== Sys2Proof/Machine/Ops.lean ====
section
/-! DEFINITION. The named operations of a tick: the engine's step (R150), the outputs (R179), the status block's step (R195),
the reset override (R290), and the whole tick. The block takes no exception and returns from none (R260, R266, R267): the
one event that overrides a tick's other effects is reset, `State.tick` below. -/

namespace Sys2Proof.Machine

/-! ## Engine -/

/-- `conv(u)`, the index conversion, in exact integer arithmetic (R143). -/
def conv (c : Cfg) (u : Nat) : Nat := ((u >>> c.clkShiftAmt) * c.convFactor) >>> c.convPrecision

/-- The index a window without a hit is given, `2^lut_width - 1` (R146). -/
def saturatedIndex (c : Cfg) : Nat := 2 ^ c.lutWidth - 1

/-- The synchronizer shifts, in every tick (R130). -/
def Engine.shift (e : Engine) (sense : Bool) : Engine := { e with sync0 := sense, sync1 := e.sync0 }

/-- A latch: the four writes of R142 and R146. -/
def Engine.latch (e : Engine) (index count : Nat) : Engine :=
  { e with rawIndex := index, rawCnt := count, latched := true, avail := true }

/-- The DISCHARGING group (R133 to R135). -/
def Engine.dischargeTick (c : Cfg) (e : Engine) (i : Inputs) : Engine :=
  let e1 := e.shift i.sense
  if e.downCnt = c.dischargeCnt then
    let e2 := { e1 with downCnt := 0, latched := false }
    if i.start then { e2 with phase := .charging, avail := false } else e2
  else { e1 with downCnt := e.downCnt + 1 }

/-- The CHARGING group (R138 to R146). The timeout's `zero_run' <- 0` beats the debounce counter's own update. -/
def Engine.chargeTick (c : Cfg) (e : Engine) (i : Inputs) : Engine :=
  let e1 := { e.shift i.sense with zeroRun := e.nextRun }
  let e2 := if e.hit then e1.latch (conv c e.upCnt) e.upCnt else e1
  if e.upCnt = c.maxCnt then
    let e3 := { e2 with upCnt := 0, zeroRun := 0, phase := .discharging }
    if e.latched || e.hit then e3 else e3.latch (saturatedIndex c) c.maxCnt
  else { e2 with upCnt := e.upCnt + 1 }

/-- `engine_tick` (R132, R150). -/
def Engine.tick (c : Cfg) (e : Engine) (i : Inputs) : Engine :=
  match e.phase with
  | .discharging => e.dischargeTick c i
  | .charging => e.chargeTick c i

/-! ## Outputs -/

/-- `o.val`: the low `res` bits of the index, or the table entry, with no latency (R175). -/
def Engine.valOut (c : Cfg) (e : Engine) : Nat :=
  if c.rawMode then e.rawIndex % 2 ^ c.res else c.table.getD e.rawIndex (Config.offTable e.rawIndex)

/-- What a tick's bus command drives and asks for: `rdata`, `tx_data`, `tx_we`, `ser_rd` (R217), and `rd_rdy`, the clearing
read of address 4 (R192, R195). -/
structure BusEffect where
  rdata : ReadData
  txData : Byte
  txWe : Bool
  serRd : BitVec 3
  clearRdy : Bool
  deriving DecidableEq, Repr

/-- The output ports of a tick: `engine_outputs` (R179) beside the bus outputs. -/
def outputsOf (c : Cfg) (e : Engine) (b : BusEffect) : Outputs where
  charge := e.chargeOut
  done := e.doneOut c
  avail := e.avail
  val := e.valOut c
  rdata := b.rdata
  txData := b.txData
  txWe := b.txWe
  serRd := b.serRd

/-! ## Status block -/

/-- The capture of a sample: flag and four copies, from the snapshot and `dac_in` (R191, R194). -/
def Engine.capture (c : Cfg) (e : Engine) (dacIn : Byte) : Status where
  sampleRdy := true
  dacValCopy := dacIn
  adcValCopy := e.valOut c
  adcIdxCopy := e.rawIndex
  adcCntCopy := e.rawCnt

/-- `status_tick` (R195): the strobe captures and sets the flag, whatever the flag was (R191, R193); else a read of address 4
clears it (R192). -/
def Status.tick (c : Cfg) (e : Engine) (st : Status) (dacIn : Byte) (clearRdy : Bool) : Status :=
  if e.strobe c then e.capture c dacIn
  else if clearRdy then { st with sampleRdy := false }
  else st

/-! ## The tick -/

/-- The pins of the next tick: the known stimulus, or free values where none is known (log entry 3). -/
def State.nextPins (s : State) : Inputs := s.stim.headD (Config.freeInputs s.draws)

/-- One tick of the block under a bus command's effect: engine, outputs and status block all read the snapshot and commit
together (R10, R195); `rst` overrides the block's next state and not the outputs (R290). -/
def State.tick (s : State) (b : BusEffect) : State :=
  { s with
    engine := if s.pins.rst then Engine.reset else s.engine.tick s.cfg s.pins
    status := if s.pins.rst then Status.reset else s.status.tick s.cfg s.engine s.pins.dacIn b.clearRdy
    out := outputsOf s.cfg s.engine b
    pins := s.nextPins
    stim := s.stim.tail
    draws := s.draws + 1 }

/-- The state with another host state. -/
def State.withFw (s : State) (fw : Firmware) : State := { s with fw := fw }

end Sys2Proof.Machine
end

