-- ==== Sys2Proof/Machine/Operands.lean ====
section
/-! DEFINITION. The operand forms of the register bus: what each register reads as (R61, R83), the effect of each kind of bus
command (R200 to R217), and the operands of a host command byte (R84, R237 to R239). -/

namespace Sys2Proof

/-! ## Modes and fields of the host -/

/-- The three meanings of the ADC field mode (R82). -/
inductive XferMode where
  | val
  | idxOrCmp
  | none
  deriving DecidableEq, Repr

/-- The register of an ADC field (R232, R237, R238). -/
def AdcField.addr : AdcField → RegAddr
  | .val => 6
  | .idx => 7
  | .cnt => 8

/-- The ADC field of `WIDE_FIELD_ADDR` (R238). -/
def WideField.field : WideField → AdcField
  | .idx => .idx
  | .cnt => .cnt

/-- The field the firmware reads into `adc_val` in a mode (R232): address 6 in mode 0 (R237), `WIDE_FIELD_ADDR` in modes 1 and
2 (R238), an open address in mode 3 (log entry 9). -/
def HostParams.adcField (p : HostParams) : XferMode → AdcField
  | .val => .val
  | .idxOrCmp => p.wideField.field
  | .none => p.noneField

end Sys2Proof

namespace Sys2Proof.Machine

/-! ## Register values -/

/-- `zext_16` of one bit (R83). -/
def zextBit (b : Bool) : ReadData := (BitVec.ofBool b).setWidth 16

/-- `zext_16` of a byte (R83). -/
def zextByte (b : Byte) : ReadData := b.setWidth 16

/-- The 16 bits of a register of configured width: zero-extended, or its low 16 bits where it is wider (R64, R83). -/
def zextReg (n : Nat) : ReadData := BitVec.ofNat 16 n

/-! ## Effects of bus commands -/

/-- No read and no write: `tx_we = 0`, `ser_rd = 000`; `rdata` and `tx_data` unspecified, so free values (R202, R217, U11). -/
def State.idleEffect (s : State) : BusEffect where
  rdata := Config.idleRdata s.draws
  txData := Config.idleTxData s.draws
  txWe := false
  serRd := 0
  clearRdy := false

/-- A read that answers `v` (R200). -/
def State.readEffect (s : State) (v : ReadData) : BusEffect := { s.idleEffect with rdata := v }

/-- A read of serial address `a`: it pulses `ser_rd[a]` (R205 to R207, R209). -/
def State.serialReadEffect (s : State) (a : Nat) (v : ReadData) : BusEffect :=
  { s.readEffect v with serRd := BitVec.twoPow 3 a }

/-- The clearing read of address 4 (R210). -/
def State.clearingReadEffect (s : State) : BusEffect :=
  { s.readEffect (zextBit s.status.sampleRdy) with clearRdy := true }

/-- The write of address 3: the byte goes to the serial channel with a one-tick strobe (R208). -/
def State.transmitEffect (s : State) (b : Byte) : BusEffect := { s.idleEffect with txWe := true, txData := b }

/-- A reserved read: `RESERVED_READ`, a free value of this tick, and nothing else (R215, U1). -/
def State.reservedReadEffect (s : State) : BusEffect := s.readEffect (Config.reservedRead s.draws)

/-- `bus_outputs`, the multiplexer in one piece (R217), with `rd_rdy` (R195), for the BUS word on the ports. -/
def State.busEffect (s : State) (w : BusWord) : BusEffect :=
  if BusWord.en w then
    if BusWord.we w then
      if BusWord.addr w = 3 then s.transmitEffect (BusWord.wdata w) else s.idleEffect
    else
      match (BusWord.addr w).toNat with
      | 0 => s.serialReadEffect 0 (zextBit s.pins.rxRdy)
      | 1 => s.serialReadEffect 1 (zextByte s.pins.rxData)
      | 2 => s.serialReadEffect 2 (zextBit s.pins.txAck)
      | 4 => s.clearingReadEffect
      | 5 => s.readEffect (zextByte s.status.dacValCopy)
      | 6 => s.readEffect (zextReg s.status.adcValCopy)
      | 7 => s.readEffect (zextReg s.status.adcIdxCopy)
      | 8 => s.readEffect (zextReg s.status.adcCntCopy)
      | _ => s.reservedReadEffect
  else s.idleEffect

/-! ## Operands of a host command byte -/

/-- `WAIT_TABLE`, five entries (R84). -/
def waitTable : List Byte := [0, 0, 64, 127, 255]

/-- `WAIT_TABLE[sel]`; none for 5, 6, 7, which point past the table (R89 (a)). -/
def waitValue (sel : BitVec 3) : Option Byte := waitTable[sel.toNat]?

/-- The filter (R234): `sel = 0` never compares; 1 to 4 proceed on equality only. -/
def filterPasses (sel : BitVec 3) (wait dac : Byte) : Bool := decide (sel = 0) || decide (dac = wait)

/-- The BUS word of a read (R81). -/
def readWord (a : RegAddr) : BusWord := busWord true false a 0

/-- The BUS word of a write (R81). -/
def writeWord (a : RegAddr) (v : Byte) : BusWord := busWord true true a v

/-- The byte to send: `dac_val`, `adc_val[7:0]`, `adc_val >> 8` (R235, R237, R238). -/
def Firmware.byteOf (fw : Firmware) : SendByte → Byte
  | .dac => fw.dacVal
  | .adcLow => fw.adcVal.extractLsb' 0 8
  | .adcHigh => fw.adcVal.extractLsb' 8 8

/-- The bus command the host issues at its point (R232). -/
def Firmware.word (fw : Firmware) : BusWord :=
  match fw.point with
  | .pollRx => readWord 0
  | .readRx => readWord 1
  | .pollSample => readWord 4
  | .readDac => readWord 5
  | .readAdc f => readWord f.addr
  | .pollTx _ => readWord 2
  | .send b => writeWord 3 (fw.byteOf b)

end Sys2Proof.Machine
end

