-- ==== Sys2Proof/Machine/HostOps.lean ====
section
/-! DEFINITION. The host's program (44_host_firmware.md) as transitions of its state, one bus command at a time. A transition
that needs no bus command takes no tick of its own: it commits with the command before it, so that schedules without a NOP
tick between two commands are covered (R230, D28; log entry 7). -/

namespace Sys2Proof.Machine

/-- The host has no command byte in hand: it is receiving one (R233). -/
def Firmware.listening (fw : Firmware) : Bool :=
  match fw.point with
  | .pollRx | .readRx => true
  | _ => false

/-- `rdata` of a polled flag reads 1 (R232). -/
def flagSet (rdata : ReadData) : Bool := decide (rdata = 1)

/-- A command byte is in hand: IDLE, part 2, waits for a sample (R233, R234). -/
def Firmware.accept (fw : Firmware) (b : CmdByte) : Firmware :=
  { fw with xferType := b, stage := .idle, point := .pollSample }

/-- The command byte being carried out: the one in hand, or one accepted now if the host was still receiving. -/
def Firmware.load (fw : Firmware) (b : CmdByte) : Firmware :=
  if fw.listening then fw.accept b else { fw with xferType := b }

/-- Send the DAC byte (R235, R241). -/
def Firmware.startSample (fw : Firmware) : Firmware := { fw with stage := .loadDac, point := .pollTx .dac }

/-- The sample has been read: in IDLE it goes through the filter, and a mismatch waits for the next sample (R234); in a
running burst it is sent unfiltered (R240, R241). -/
def Firmware.gotSample (fw : Firmware) (sel : BitVec 3) (wait : Byte) : Firmware :=
  if fw.stage = .idle && !filterPasses sel wait fw.dacVal then { fw with point := .pollSample }
  else fw.startSample

/-- WAIT_OR_FINISH (R240): count the sample; the burst ends at `BURST_LEN`, else wait for the next sample. -/
def Firmware.finishSample (fw : Firmware) (p : HostParams) : Firmware :=
  if fw.count + 1 = p.burstLen then { fw with count := 0, stage := .idle, point := .pollRx }
  else { fw with count := fw.count + 1, stage := .waitOrFinish, point := .pollSample }

/-- LOAD_ADC's dispatch on the mode (R236): modes 0 to 2 send the low byte first, mode 3 sends nothing. -/
def Firmware.dispatchAdc (fw : Firmware) (p : HostParams) : XferMode → Firmware
  | .val | .idxOrCmp => { fw with stage := .loadAdc, point := .pollTx .adcLow }
  | .none => fw.finishSample p

/-- After the low byte: a second byte in modes 1 and 2 only (R237, R238). -/
def Firmware.afterLow (fw : Firmware) (p : HostParams) : XferMode → Firmware
  | .idxOrCmp => { fw with point := .pollTx .adcHigh }
  | .val | .none => fw.finishSample p

/-- The DAC byte has been read: store it, and read the mode's ADC field next (R232). -/
def Firmware.afterDac (fw : Firmware) (p : HostParams) (m : XferMode) (dac : Byte) : Firmware :=
  { fw with dacVal := dac, point := .readAdc (p.adcField m) }

/-- What the host does with the answer to the command it issued (R232 to R241). -/
def Firmware.advance (fw : Firmware) (p : HostParams) (m : XferMode) (sel : BitVec 3) (wait : Byte) (rdata : ReadData) :
    Firmware :=
  match fw.point with
  | .pollRx | .readRx => fw
  | .pollSample => if flagSet rdata then { fw with point := .readDac } else fw
  | .readDac => fw.afterDac p m (rdata.setWidth 8)
  | .readAdc _ => Firmware.gotSample { fw with adcVal := rdata } sel wait
  | .pollTx b => if flagSet rdata then { fw with point := .send b } else fw
  | .send .dac => fw.dispatchAdc p m
  | .send .adcLow => fw.afterLow p m
  | .send .adcHigh => fw.finishSample p

/-- The host's poll of address 0 has been answered: on 1 it reads the byte next (R232). Only if the poll was the host's. -/
def State.hostSawReady (s : State) : Firmware :=
  if s.pins.hostTurn && decide (s.fw.point = .pollRx) && s.pins.rxRdy then { s.fw with point := .readRx } else s.fw

/-- The host's read of address 1 has been answered: the byte is the new command (R232, R233). Only if the read was the
host's. -/
def State.hostTookByte (s : State) : Firmware :=
  if s.pins.hostTurn && decide (s.fw.point = .readRx) then s.fw.accept s.pins.rxData else s.fw

/-- One tick of the host's work on a command byte: it issues the bus command of its point, the block performs its tick
under it, and the host takes the answer at the edge (R200, R232). A selector past the table is refused (R89 (a), U2). -/
def hostCommand (m : XferMode) (b : CmdByte) (sel : BitVec 3) (s : State) : Host.Outcome State Fault Refusal :=
  match waitValue sel with
  | none => .refused (.selectorOpen sel)
  | some wait =>
    let fw := s.fw.load b
    let eff := s.busEffect fw.word
    .next ((s.tick eff).withFw (fw.advance s.params m sel wait eff.rdata))

end Sys2Proof.Machine
end

