-- ==== Sys2Proof/Machine/Bus.lean ====
section
/-! DEFINITION. The meanings of the bus commands (R202 to R216): each is one tick of the block under that command's effect.
Every one of them completes, on every state (R260). -/

namespace Sys2Proof.Machine

/-- The tick of a reserved read (R215). -/
def reservedRead (s : State) : Host.Outcome State Fault Refusal := .next (s.tick s.reservedReadEffect)

/-- The tick of an ignored write (R216): `tx_we` stays 0 and the command changes nothing. -/
def ignoredWrite (s : State) : Host.Outcome State Fault Refusal := .next (s.tick s.idleEffect)

/-- NOP (R202): the block's tick and nothing else. -/
def execNop (_we : Bool) (_addr : RegAddr) (_wdata : Byte) (s : State) : Host.Outcome State Fault Refusal :=
  .next (s.tick s.idleEffect)

/-- RD_UART_RX_RDY (R205). If the poll was the documented host's, the host takes the answer (R232). -/
def execRdUartRxRdy (_wdata : Byte) (s : State) : Host.Outcome State Fault Refusal :=
  .next ((s.tick (s.serialReadEffect 0 (zextBit s.pins.rxRdy))).withFw s.hostSawReady)

/-- RD_UART_RX_DATA (R206). If the read was the documented host's, the byte is its next command (R232, R233). -/
def execRdUartRxData (_wdata : Byte) (s : State) : Host.Outcome State Fault Refusal :=
  .next ((s.tick (s.serialReadEffect 1 (zextByte s.pins.rxData))).withFw s.hostTookByte)

/-- RD_UART_TX_ACK (R207). -/
def execRdUartTxAck (_wdata : Byte) (s : State) : Host.Outcome State Fault Refusal :=
  .next (s.tick (s.serialReadEffect 2 (zextBit s.pins.txAck)))

/-- RD_RESERVED of address 3 (R215). -/
def execRdReserved3 (_wdata : Byte) (s : State) : Host.Outcome State Fault Refusal :=
  reservedRead s

/-- RD_SAMPLE_RDY (R210): the old flag, cleared at the edge unless the strobe sets it (R191, R192). -/
def execRdSampleRdy (_wdata : Byte) (s : State) : Host.Outcome State Fault Refusal :=
  .next (s.tick s.clearingReadEffect)

/-- RD_DAC_VAL_COPY (R211). -/
def execRdDacValCopy (_wdata : Byte) (s : State) : Host.Outcome State Fault Refusal :=
  .next (s.tick (s.readEffect (zextByte s.status.dacValCopy)))

/-- RD_ADC_VAL_COPY (R212). -/
def execRdAdcValCopy (_wdata : Byte) (s : State) : Host.Outcome State Fault Refusal :=
  .next (s.tick (s.readEffect (zextReg s.status.adcValCopy)))

/-- RD_ADC_IDX_COPY (R213). -/
def execRdAdcIdxCopy (_wdata : Byte) (s : State) : Host.Outcome State Fault Refusal :=
  .next (s.tick (s.readEffect (zextReg s.status.adcIdxCopy)))

/-- RD_ADC_CNT_COPY (R214): the low 16 bits if the register is wider. -/
def execRdAdcCntCopy (_wdata : Byte) (s : State) : Host.Outcome State Fault Refusal :=
  .next (s.tick (s.readEffect (zextReg s.status.adcCntCopy)))

/-- RD_RESERVED of address 9 (R215). -/
def execRdReserved9 (_wdata : Byte) (s : State) : Host.Outcome State Fault Refusal :=
  reservedRead s

/-- RD_RESERVED of address 10 (R215). -/
def execRdReserved10 (_wdata : Byte) (s : State) : Host.Outcome State Fault Refusal :=
  reservedRead s

/-- RD_RESERVED of address 11 (R215). -/
def execRdReserved11 (_wdata : Byte) (s : State) : Host.Outcome State Fault Refusal :=
  reservedRead s

/-- RD_RESERVED of address 12 (R215). -/
def execRdReserved12 (_wdata : Byte) (s : State) : Host.Outcome State Fault Refusal :=
  reservedRead s

/-- RD_RESERVED of address 13 (R215). -/
def execRdReserved13 (_wdata : Byte) (s : State) : Host.Outcome State Fault Refusal :=
  reservedRead s

/-- RD_RESERVED of address 14 (R215). -/
def execRdReserved14 (_wdata : Byte) (s : State) : Host.Outcome State Fault Refusal :=
  reservedRead s

/-- RD_RESERVED of address 15 (R215). -/
def execRdReserved15 (_wdata : Byte) (s : State) : Host.Outcome State Fault Refusal :=
  reservedRead s

/-- WR_RESERVED of address 0 (R216). -/
def execWrReserved0 (_wdata : Byte) (s : State) : Host.Outcome State Fault Refusal :=
  ignoredWrite s

/-- WR_RESERVED of address 1 (R216). -/
def execWrReserved1 (_wdata : Byte) (s : State) : Host.Outcome State Fault Refusal :=
  ignoredWrite s

/-- WR_RESERVED of address 2 (R216). -/
def execWrReserved2 (_wdata : Byte) (s : State) : Host.Outcome State Fault Refusal :=
  ignoredWrite s

/-- WR_UART_TX_DATA (R208): the byte and the strobe go to the serial channel; nothing is stored. -/
def execWrUartTxData (wdata : Byte) (s : State) : Host.Outcome State Fault Refusal :=
  .next (s.tick (s.transmitEffect wdata))

/-- WR_RESERVED of address 4 (R216). -/
def execWrReserved4 (_wdata : Byte) (s : State) : Host.Outcome State Fault Refusal :=
  ignoredWrite s

/-- WR_RESERVED of address 5 (R216). -/
def execWrReserved5 (_wdata : Byte) (s : State) : Host.Outcome State Fault Refusal :=
  ignoredWrite s

/-- WR_RESERVED of address 6 (R216). -/
def execWrReserved6 (_wdata : Byte) (s : State) : Host.Outcome State Fault Refusal :=
  ignoredWrite s

/-- WR_RESERVED of address 7 (R216). -/
def execWrReserved7 (_wdata : Byte) (s : State) : Host.Outcome State Fault Refusal :=
  ignoredWrite s

/-- WR_RESERVED of address 8 (R216). -/
def execWrReserved8 (_wdata : Byte) (s : State) : Host.Outcome State Fault Refusal :=
  ignoredWrite s

/-- WR_RESERVED of address 9 (R216). -/
def execWrReserved9 (_wdata : Byte) (s : State) : Host.Outcome State Fault Refusal :=
  ignoredWrite s

/-- WR_RESERVED of address 10 (R216). -/
def execWrReserved10 (_wdata : Byte) (s : State) : Host.Outcome State Fault Refusal :=
  ignoredWrite s

/-- WR_RESERVED of address 11 (R216). -/
def execWrReserved11 (_wdata : Byte) (s : State) : Host.Outcome State Fault Refusal :=
  ignoredWrite s

/-- WR_RESERVED of address 12 (R216). -/
def execWrReserved12 (_wdata : Byte) (s : State) : Host.Outcome State Fault Refusal :=
  ignoredWrite s

/-- WR_RESERVED of address 13 (R216). -/
def execWrReserved13 (_wdata : Byte) (s : State) : Host.Outcome State Fault Refusal :=
  ignoredWrite s

/-- WR_RESERVED of address 14 (R216). -/
def execWrReserved14 (_wdata : Byte) (s : State) : Host.Outcome State Fault Refusal :=
  ignoredWrite s

/-- WR_RESERVED of address 15 (R216). -/
def execWrReserved15 (_wdata : Byte) (s : State) : Host.Outcome State Fault Refusal :=
  ignoredWrite s

end Sys2Proof.Machine
end

