-- ==== Sys2Proof/Machine/HostCmd.lean ====
section
/-! DEFINITION. The meanings of the host command bytes (R237 to R239). A command byte is carried out over many ticks: it is
the current operation from the tick after its receipt until its burst ends, and each execution of it is one tick in which
the host issues its next bus command. -/

namespace Sys2Proof.Machine

/-- XFER_VAL (R237): DAC byte, then `adc_val[7:0]`, per sample. -/
def execXferVal (ign sel : BitVec 3) (s : State) : Host.Outcome State Fault Refusal :=
  hostCommand .val (cmdByte ign sel 0) sel s

/-- XFER_IDX_OR_CMP, mode 1 (R238): DAC byte, then `adc_val` low byte and high byte, per sample. -/
def execXferIdxOrCmp1 (ign sel : BitVec 3) (s : State) : Host.Outcome State Fault Refusal :=
  hostCommand .idxOrCmp (cmdByte ign sel 1) sel s

/-- XFER_IDX_OR_CMP, mode 2 (R238), the second encoding of the same meaning. -/
def execXferIdxOrCmp2 (ign sel : BitVec 3) (s : State) : Host.Outcome State Fault Refusal :=
  hostCommand .idxOrCmp (cmdByte ign sel 2) sel s

/-- XFER_NONE (R239): the DAC byte alone, per sample. -/
def execXferNone (ign sel : BitVec 3) (s : State) : Host.Outcome State Fault Refusal :=
  hostCommand .none (cmdByte ign sel 3) sel s

end Sys2Proof.Machine
end

