-- ==== Sys2Proof/Machine/Dispatch.lean ====
section
/-! DEFINITION. The dispatch of an operation to its meaning, one arm per constructor. -/

namespace Sys2Proof.Machine

def exec (i : Instr) (s : State) : Host.Outcome State Fault Refusal :=
  match i with
  | .nop we addr wdata => Sys2Proof.Machine.execNop we addr wdata s
  | .rdUartRxRdy wdata => Sys2Proof.Machine.execRdUartRxRdy wdata s
  | .rdUartRxData wdata => Sys2Proof.Machine.execRdUartRxData wdata s
  | .rdUartTxAck wdata => Sys2Proof.Machine.execRdUartTxAck wdata s
  | .rdReserved3 wdata => Sys2Proof.Machine.execRdReserved3 wdata s
  | .rdSampleRdy wdata => Sys2Proof.Machine.execRdSampleRdy wdata s
  | .rdDacValCopy wdata => Sys2Proof.Machine.execRdDacValCopy wdata s
  | .rdAdcValCopy wdata => Sys2Proof.Machine.execRdAdcValCopy wdata s
  | .rdAdcIdxCopy wdata => Sys2Proof.Machine.execRdAdcIdxCopy wdata s
  | .rdAdcCntCopy wdata => Sys2Proof.Machine.execRdAdcCntCopy wdata s
  | .rdReserved9 wdata => Sys2Proof.Machine.execRdReserved9 wdata s
  | .rdReserved10 wdata => Sys2Proof.Machine.execRdReserved10 wdata s
  | .rdReserved11 wdata => Sys2Proof.Machine.execRdReserved11 wdata s
  | .rdReserved12 wdata => Sys2Proof.Machine.execRdReserved12 wdata s
  | .rdReserved13 wdata => Sys2Proof.Machine.execRdReserved13 wdata s
  | .rdReserved14 wdata => Sys2Proof.Machine.execRdReserved14 wdata s
  | .rdReserved15 wdata => Sys2Proof.Machine.execRdReserved15 wdata s
  | .wrReserved0 wdata => Sys2Proof.Machine.execWrReserved0 wdata s
  | .wrReserved1 wdata => Sys2Proof.Machine.execWrReserved1 wdata s
  | .wrReserved2 wdata => Sys2Proof.Machine.execWrReserved2 wdata s
  | .wrUartTxData wdata => Sys2Proof.Machine.execWrUartTxData wdata s
  | .wrReserved4 wdata => Sys2Proof.Machine.execWrReserved4 wdata s
  | .wrReserved5 wdata => Sys2Proof.Machine.execWrReserved5 wdata s
  | .wrReserved6 wdata => Sys2Proof.Machine.execWrReserved6 wdata s
  | .wrReserved7 wdata => Sys2Proof.Machine.execWrReserved7 wdata s
  | .wrReserved8 wdata => Sys2Proof.Machine.execWrReserved8 wdata s
  | .wrReserved9 wdata => Sys2Proof.Machine.execWrReserved9 wdata s
  | .wrReserved10 wdata => Sys2Proof.Machine.execWrReserved10 wdata s
  | .wrReserved11 wdata => Sys2Proof.Machine.execWrReserved11 wdata s
  | .wrReserved12 wdata => Sys2Proof.Machine.execWrReserved12 wdata s
  | .wrReserved13 wdata => Sys2Proof.Machine.execWrReserved13 wdata s
  | .wrReserved14 wdata => Sys2Proof.Machine.execWrReserved14 wdata s
  | .wrReserved15 wdata => Sys2Proof.Machine.execWrReserved15 wdata s
  | .xferVal ign sel => Sys2Proof.Machine.execXferVal ign sel s
  | .xferIdxOrCmp1 ign sel => Sys2Proof.Machine.execXferIdxOrCmp1 ign sel s
  | .xferIdxOrCmp2 ign sel => Sys2Proof.Machine.execXferIdxOrCmp2 ign sel s
  | .xferNone ign sel => Sys2Proof.Machine.execXferNone ign sel s

end Sys2Proof.Machine
end

