-- ==== Sys2Proof/Machine/Fetch.lean ====
section
/-! DEFINITION. Where the tick's operation comes from, and how an operation is put there. The block fetches no instructions
(R72): a tick's operation is the command on its bus ports (R81), or, while the documented host carries out a command byte, that
byte (R231 `xfer_type`). -/

namespace Sys2Proof

/-- The BUS word on the four input ports (R81). -/
def Inputs.portWord (i : Inputs) : BusWord := busWord i.busEn i.busWe i.busAddr i.busWdata

/-- The pins with a BUS word on the four ports, and the bus not the host's in this tick. -/
def Inputs.withWord (i : Inputs) (w : BusWord) : Inputs :=
  { i with busEn := BusWord.en w, busWe := BusWord.we w, busAddr := BusWord.addr w, busWdata := BusWord.wdata w,
           hostTurn := false }

end Sys2Proof

namespace Sys2Proof.Machine

/-- The tick's operation is the host's command byte. -/
def State.hostBusy (s : State) : Bool := s.pins.hostTurn && !s.fw.listening

/-- The BUS word of a tick that carries out no command byte: the host's own poll or read while it receives one (R232), else
the ports'. -/
def State.tickWord (s : State) : BusWord := if s.pins.hostTurn then s.fw.word else s.pins.portWord

/-- The bytes of the tick's operation. -/
def State.fetchBytes (s : State) : List Byte :=
  if s.hostBusy then [s.fw.xferType] else BusWord.toBytes s.tickWord

/-- The state with an operation's bytes where the next tick takes its operation from: two bytes on the bus ports, one byte as
the command byte the host has just received, with the bus the host's in this tick. -/
def State.place (s : State) : List Byte → State
  | [b] => { s with pins := { s.pins with hostTurn := true }, fw := s.fw.accept b }
  | [lo, hi] => { s with pins := s.pins.withWord (hi.extractLsb' 0 6 ++ lo) }
  | _ => s

end Sys2Proof.Machine
end

