-- ==== Sys2Proof/Machine/Validity.lean ====
section
/-! DEFINITION. Validity of a configuration (R118) by the failure names of R263, and the derived integers R108 to R110. -/

namespace Sys2Proof

/-- `bit_length(n)` (R11): 0 for 0, else `floor(log2 n) + 1`. -/
def bitLength (n : Nat) : Nat := if n = 0 then 0 else Nat.log2 n + 1

/-- `W_UP`, the width of `up_cnt`, `raw_cnt` and `adc_cnt_copy` (R26). -/
def Cfg.wUp (c : Cfg) : Nat := bitLength c.maxCnt

/-- `W_DN`, the width of `down_cnt` (R27). -/
def Cfg.wDn (c : Cfg) : Nat := bitLength c.dischargeCnt

/-- `max_cnt >> clk_shift_amt`, the `m` of R144. -/
def Cfg.shiftedMax (c : Cfg) : Nat := c.maxCnt >>> c.clkShiftAmt

/-- R118 (e): `clk_shift_amt`, `conv_precision` and `conv_factor` are as R108 to R110 define them. -/
def Cfg.consistent (c : Cfg) : Bool :=
  decide (c.clkShiftAmt = bitLength c.maxCnt - c.lutWidth) && decide (c.convPrecision = 16 - c.lutWidth) &&
    decide (c.convFactor = 2 ^ c.lutWidth * 2 ^ c.convPrecision / c.shiftedMax)

/-- R118 (g): `2^lut_width` entries, each at most `2^res - 1`. -/
def Cfg.tableFits (c : Cfg) : Bool :=
  decide (c.table.length = 2 ^ c.lutWidth) && c.table.all fun e => decide (e < 2 ^ c.res)

/-- The integer part of R118, items (b) to (g) in order: why the record has no hardware, or none if it is valid (R119). -/
def Cfg.check (c : Cfg) : Option ConfigError :=
  if c.res < 1 ∨ c.lutWidth < 1 ∨ 16 < c.lutWidth then some .width
  else if c.maxCnt < 1 ∨ c.dischargeCnt < 1 then some .count
  else if bitLength c.maxCnt < c.lutWidth then some .shift
  else if c.consistent = false then some .inconsistent
  else if c.shiftedMax = 2 ^ (c.lutWidth - 1) then some .indexRange
  else if c.tableFits = false then some .table
  else none

/-- The configuration is valid. -/
abbrev Cfg.Valid (c : Cfg) : Prop := c.check = none

/-- A rounding to a nearest integer. How it rounds a half is the open parameter `THRESH_IDX_ROUND` (R111, D24). -/
def NearestRounding (round : Rat → Int) : Prop := ∀ x : Rat, |(round x : Rat) - x| ≤ 1 / 2

/-- `thresh_digital = round(2^res · thresh / Vref)` (R111). -/
def Primary.threshDigital (p : Primary) (res : Nat) (round : Rat → Int) : Int := round (2 ^ res * p.thresh / p.vref)

/-- `thresh_digital · Vref / 2^res`, the `Vc_end` of R111's charge time. -/
def Primary.threshVoltage (p : Primary) (res : Nat) (round : Rat → Int) : Rat :=
  p.threshDigital res round * p.vref / 2 ^ res

/-- Why the physical parameters admit no configuration: R118 (a); the domain error of each charge time the construction
computes, to `Vref` (R102) and to the threshold's voltage (R111), by R101 and R263; and `Hz > 0` (R7), without which the counts
of R106 and R107 are below 1 (the name `count` for it is DEDUCED, the order DESIGN CHOICE, log entry 13). -/
def Primary.check (p : Primary) (res : Nat) (round : Rat → Int) : Option ConfigError :=
  if p.r ≤ 0 ∨ p.c ≤ 0 ∨ p.vref ≤ 0 then some .invariant
  else if p.vdd ≤ p.vref ∨ p.vdd ≤ p.threshVoltage res round then some .domain
  else if p.hz ≤ 0 then some .count
  else none

/-- The configuration with these sizes and counts, its other integers derived by R108 to R110. -/
def Cfg.derive (res lutWidth maxCnt dischargeCnt : Nat) (rawMode : Bool) (table : List Nat) : Cfg where
  res := res
  lutWidth := lutWidth
  rawMode := rawMode
  maxCnt := maxCnt
  dischargeCnt := dischargeCnt
  clkShiftAmt := bitLength maxCnt - lutWidth
  convPrecision := 16 - lutWidth
  convFactor := 2 ^ lutWidth * 2 ^ (16 - lutWidth) / (maxCnt >>> (bitLength maxCnt - lutWidth))
  table := table

/-- R116 (a), a test of any table handed to the model: no entry is below the one before it. It is no item of R118. -/
def Cfg.tableMonotone (c : Cfg) : Bool := (c.table.zip c.table.tail).all fun e => decide (e.1 ≤ e.2)

/-- R116 (c), the clamp, a test of any table handed to the model: no entry is above the largest code. -/
def Cfg.tableClamped (c : Cfg) : Bool := c.table.all fun e => decide (e ≤ 2 ^ c.res - 1)

/-- Construction (R118, R263): the record itself if the physical parameters and the integers are valid, else the failure. -/
def construct (p : Primary) (round : Rat → Int) (c : Cfg) : Except ConfigError Cfg :=
  match p.check c.res round, c.check with
  | some e, _ => .error e
  | none, some e => .error e
  | none, none => .ok c

end Sys2Proof
end

