-- ==== Sys2Proof/Machine/Step.lean ====
section
/-! DEFINITION. One step of the machine: one tick. -/

namespace Sys2Proof.Machine

/-- One tick: no hardware exists for an invalid configuration (R118); else the tick's operation is decoded and performed. -/
def step (s : State) : Host.Outcome State Fault Refusal :=
  match s.cfg.check with
  | some e => .refused (.config e)
  | none =>
    match decode s.fetchBytes with
    | .ok i => exec i s
    | .error e => .refused (.undecodable e)

/-- `s` with the operation of the bits `w` (a table row of `nbits` bits) as the operation of the next tick. -/
def State.withFetchWord (s : State) (nbits w : Nat) : State := s.place (bytesOf ((nbits + 7) / 8) w)

end Sys2Proof.Machine
end

