-- ==== Sys2Proof/Machine/Construction.lean ====
section
/-! DEFINITION. Where a configuration comes from (40_config_and_table.md): the RC timing model and the table construction,
as relations over the real numbers. The machine never computes any of this (R8, R119); a configuration is data, and these
relations say which data the formulas give. -/

namespace Sys2Proof

/-- `RC = R · C` (R100). -/
def Primary.IsRC (p : Primary) (rc : ℝ) : Prop := rc = (p.r : ℝ) * (p.c : ℝ)

/-- `t = charge_time(Vc_begin, Vc_end)` (R101): no `t` satisfies it when `Vc_end ≥ Vdd`, the domain error. The spec states no
time for `Vc_begin ≥ Vdd > Vc_end`, where the formula divides by zero or takes the logarithm of a number that is not positive:
there every `t` satisfies it, a free value (DESIGN CHOICE, safe, log entry 23). Every call of the construction has
`Vc_begin = 0 < Vdd`. -/
def Primary.ChargeTime (p : Primary) (v0 v1 t : ℝ) : Prop :=
  v1 < p.vdd ∧ (v0 < p.vdd → ∃ rc, p.IsRC rc ∧ t = -rc * Real.log (1 - (v1 - v0) / (p.vdd - v0)))

/-- `t = charge_time_max()` (R102). -/
def Primary.ChargeTimeMax (p : Primary) (t : ℝ) : Prop := p.ChargeTime 0 p.vref t

/-- `t = drain_time_max()` (R103). -/
def Primary.DrainTimeMax (p : Primary) (t : ℝ) : Prop := ∃ rc, p.IsRC rc ∧ t = 6 * rc

/-- `v = Vout(t, Vc_begin)` (R104). -/
def Primary.VoutIs (p : Primary) (t v0 v : ℝ) : Prop :=
  ∃ rc, p.IsRC rc ∧ v = (p.vdd - v0) * (1 - Real.exp (-t / rc)) + v0

/-- `f = sample_rate()`, in samples per second of analog time (R105). -/
def Primary.SampleRate (p : Primary) (f : ℝ) : Prop :=
  ∃ tc td, p.ChargeTimeMax tc ∧ p.DrainTimeMax td ∧ f = 1 / (tc + td)

/-- `n = max_cnt` (R106). -/
def Primary.IsMaxCnt (p : Primary) (n : ℕ) : Prop := ∃ t, p.ChargeTimeMax t ∧ (n : ℤ) = ⌈(p.hz : ℝ) * t⌉

/-- `n = discharge_cnt` (R107). -/
def Primary.IsDischargeCnt (p : Primary) (n : ℕ) : Prop := ∃ t, p.DrainTimeMax t ∧ (n : ℤ) = ⌈(p.hz : ℝ) * t⌉

/-- The roundings of R111's real index that the spec leaves open (`THRESH_IDX_ROUND`, D24): floor, ceiling, or to a nearest
integer. -/
def IndexRounding (idxRound : ℝ → ℤ) : Prop :=
  (∀ x, idxRound x = ⌊x⌋) ∨ (∀ x, idxRound x = ⌈x⌉) ∨ ∀ x, |(idxRound x : ℝ) - x| ≤ 1 / 2

/-- `j = thresh_start_idx` (R111): the index whose voltage reads back as `thresh_digital`, made an integer. A natural number:
the spec does not say whether `thresh` may be negative (N11; DESIGN CHOICE, log entry 18). -/
def Primary.ThreshStartIdx (p : Primary) (res lutWidth : ℕ) (round : Rat → Int) (idxRound : ℝ → ℤ) (j : ℕ) : Prop :=
  ∃ t tmax, p.ChargeTimeMax tmax ∧ p.ChargeTime 0 (p.threshVoltage res round) t ∧
    (j : ℤ) = idxRound ((2 : ℝ) ^ lutWidth * t / tmax)

/-- `raw` of index `i` (R112): the output scale's reading of the voltage at the index's sample time. -/
def Primary.RawEntry (p : Primary) (res lutWidth start i : ℕ) (raw : ℝ) : Prop :=
  ∃ tmax v, p.ChargeTimeMax tmax ∧ p.VoutIs (tmax * ((i : ℝ) + start) / (2 : ℝ) ^ lutWidth) 0 v ∧
    raw = v * ((2 : ℝ) ^ res / p.vref)

/-- `entry = table[i]` (R113, R114): the floor, stretched below index 8, clamped to the largest code. -/
def Primary.TableEntry (p : Primary) (res lutWidth start i entry : ℕ) : Prop :=
  ∃ raw, p.RawEntry res lutWidth start i raw ∧
    (entry : ℤ) = min (if i < 8 then ⌊raw * i / 8⌋ else ⌊raw⌋) ((2 : ℤ) ^ res - 1)

/-- The configuration `c` is the one the formulas give for `p` (R106 to R115), under two roundings that D24 admits. -/
def Cfg.BuiltFrom (c : Cfg) (p : Primary) (round : Rat → Int) (idxRound : ℝ → ℤ) : Prop :=
  NearestRounding round ∧ IndexRounding idxRound ∧ p.check c.res round = none ∧
    p.IsMaxCnt c.maxCnt ∧ p.IsDischargeCnt c.dischargeCnt ∧
    c.clkShiftAmt + c.lutWidth = bitLength c.maxCnt ∧ c.convPrecision + c.lutWidth = 16 ∧
    c.convFactor = 2 ^ c.lutWidth * 2 ^ c.convPrecision / c.shiftedMax ∧
    c.table.length = 2 ^ c.lutWidth ∧
    ∃ j, p.ThreshStartIdx c.res c.lutWidth round idxRound j ∧
      ∀ i e, c.table[i]? = some e → p.TableEntry c.res c.lutWidth j i e

/-- R116 (b), a test of any table handed to the model with the parameters it is said to come from: below index 8 an entry is
exactly `floor(raw · i / 8)` (R113). -/
def Cfg.LowEndStretched (c : Cfg) (p : Primary) (round : Rat → Int) (idxRound : ℝ → ℤ) : Prop :=
  ∃ j, p.ThreshStartIdx c.res c.lutWidth round idxRound j ∧
    ∀ i e : ℕ, i < 8 → c.table[i]? = some e → ∃ raw, p.RawEntry c.res c.lutWidth j i raw ∧ (e : ℤ) = ⌊raw * i / 8⌋

end Sys2Proof
end

