-- ==== Sys2Proof/Machine/OpcodeMap.lean ====
section
/-! DEFINITION. The opcode map of R85, R82 and R88 as data: one row per row of spec/opcode_table.json, and the row of each
operation. -/

namespace Sys2Proof

/-- A row: an operation's words are those with `word &&& mask = pattern` (the spec's `match`). -/
structure OpcodeRow where
  format : Format
  mnemonic : String
  pattern : Nat
  mask : Nat
  deriving DecidableEq, Repr

/-- The row of an operation. -/
def Instr.row : Instr → OpcodeRow
  | .nop _ _ _ => ⟨.bus, "NOP", 0x0000, 0x2000⟩
  | .rdUartRxRdy _ => ⟨.bus, "RD_UART_RX_RDY", 0x2000, 0x3F00⟩
  | .rdUartRxData _ => ⟨.bus, "RD_UART_RX_DATA", 0x2100, 0x3F00⟩
  | .rdUartTxAck _ => ⟨.bus, "RD_UART_TX_ACK", 0x2200, 0x3F00⟩
  | .rdReserved3 _ => ⟨.bus, "RD_RESERVED", 0x2300, 0x3F00⟩
  | .rdSampleRdy _ => ⟨.bus, "RD_SAMPLE_RDY", 0x2400, 0x3F00⟩
  | .rdDacValCopy _ => ⟨.bus, "RD_DAC_VAL_COPY", 0x2500, 0x3F00⟩
  | .rdAdcValCopy _ => ⟨.bus, "RD_ADC_VAL_COPY", 0x2600, 0x3F00⟩
  | .rdAdcIdxCopy _ => ⟨.bus, "RD_ADC_IDX_COPY", 0x2700, 0x3F00⟩
  | .rdAdcCntCopy _ => ⟨.bus, "RD_ADC_CNT_COPY", 0x2800, 0x3F00⟩
  | .rdReserved9 _ => ⟨.bus, "RD_RESERVED", 0x2900, 0x3F00⟩
  | .rdReserved10 _ => ⟨.bus, "RD_RESERVED", 0x2A00, 0x3F00⟩
  | .rdReserved11 _ => ⟨.bus, "RD_RESERVED", 0x2B00, 0x3F00⟩
  | .rdReserved12 _ => ⟨.bus, "RD_RESERVED", 0x2C00, 0x3F00⟩
  | .rdReserved13 _ => ⟨.bus, "RD_RESERVED", 0x2D00, 0x3F00⟩
  | .rdReserved14 _ => ⟨.bus, "RD_RESERVED", 0x2E00, 0x3F00⟩
  | .rdReserved15 _ => ⟨.bus, "RD_RESERVED", 0x2F00, 0x3F00⟩
  | .wrReserved0 _ => ⟨.bus, "WR_RESERVED", 0x3000, 0x3F00⟩
  | .wrReserved1 _ => ⟨.bus, "WR_RESERVED", 0x3100, 0x3F00⟩
  | .wrReserved2 _ => ⟨.bus, "WR_RESERVED", 0x3200, 0x3F00⟩
  | .wrUartTxData _ => ⟨.bus, "WR_UART_TX_DATA", 0x3300, 0x3F00⟩
  | .wrReserved4 _ => ⟨.bus, "WR_RESERVED", 0x3400, 0x3F00⟩
  | .wrReserved5 _ => ⟨.bus, "WR_RESERVED", 0x3500, 0x3F00⟩
  | .wrReserved6 _ => ⟨.bus, "WR_RESERVED", 0x3600, 0x3F00⟩
  | .wrReserved7 _ => ⟨.bus, "WR_RESERVED", 0x3700, 0x3F00⟩
  | .wrReserved8 _ => ⟨.bus, "WR_RESERVED", 0x3800, 0x3F00⟩
  | .wrReserved9 _ => ⟨.bus, "WR_RESERVED", 0x3900, 0x3F00⟩
  | .wrReserved10 _ => ⟨.bus, "WR_RESERVED", 0x3A00, 0x3F00⟩
  | .wrReserved11 _ => ⟨.bus, "WR_RESERVED", 0x3B00, 0x3F00⟩
  | .wrReserved12 _ => ⟨.bus, "WR_RESERVED", 0x3C00, 0x3F00⟩
  | .wrReserved13 _ => ⟨.bus, "WR_RESERVED", 0x3D00, 0x3F00⟩
  | .wrReserved14 _ => ⟨.bus, "WR_RESERVED", 0x3E00, 0x3F00⟩
  | .wrReserved15 _ => ⟨.bus, "WR_RESERVED", 0x3F00, 0x3F00⟩
  | .xferVal _ _ => ⟨.cmd, "XFER_VAL", 0x00, 0x03⟩
  | .xferIdxOrCmp1 _ _ => ⟨.cmd, "XFER_IDX_OR_CMP", 0x01, 0x03⟩
  | .xferIdxOrCmp2 _ _ => ⟨.cmd, "XFER_IDX_OR_CMP", 0x02, 0x03⟩
  | .xferNone _ _ => ⟨.cmd, "XFER_NONE", 0x03, 0x03⟩

/-- The rows of format BUS. -/
def busRows : List OpcodeRow :=
  [⟨.bus, "NOP", 0x0000, 0x2000⟩,
   ⟨.bus, "RD_UART_RX_RDY", 0x2000, 0x3F00⟩,
   ⟨.bus, "RD_UART_RX_DATA", 0x2100, 0x3F00⟩,
   ⟨.bus, "RD_UART_TX_ACK", 0x2200, 0x3F00⟩,
   ⟨.bus, "RD_RESERVED", 0x2300, 0x3F00⟩,
   ⟨.bus, "RD_SAMPLE_RDY", 0x2400, 0x3F00⟩,
   ⟨.bus, "RD_DAC_VAL_COPY", 0x2500, 0x3F00⟩,
   ⟨.bus, "RD_ADC_VAL_COPY", 0x2600, 0x3F00⟩,
   ⟨.bus, "RD_ADC_IDX_COPY", 0x2700, 0x3F00⟩,
   ⟨.bus, "RD_ADC_CNT_COPY", 0x2800, 0x3F00⟩,
   ⟨.bus, "RD_RESERVED", 0x2900, 0x3F00⟩] ++
  [⟨.bus, "RD_RESERVED", 0x2A00, 0x3F00⟩,
   ⟨.bus, "RD_RESERVED", 0x2B00, 0x3F00⟩,
   ⟨.bus, "RD_RESERVED", 0x2C00, 0x3F00⟩,
   ⟨.bus, "RD_RESERVED", 0x2D00, 0x3F00⟩,
   ⟨.bus, "RD_RESERVED", 0x2E00, 0x3F00⟩,
   ⟨.bus, "RD_RESERVED", 0x2F00, 0x3F00⟩,
   ⟨.bus, "WR_RESERVED", 0x3000, 0x3F00⟩,
   ⟨.bus, "WR_RESERVED", 0x3100, 0x3F00⟩,
   ⟨.bus, "WR_RESERVED", 0x3200, 0x3F00⟩,
   ⟨.bus, "WR_UART_TX_DATA", 0x3300, 0x3F00⟩,
   ⟨.bus, "WR_RESERVED", 0x3400, 0x3F00⟩] ++
  [⟨.bus, "WR_RESERVED", 0x3500, 0x3F00⟩,
   ⟨.bus, "WR_RESERVED", 0x3600, 0x3F00⟩,
   ⟨.bus, "WR_RESERVED", 0x3700, 0x3F00⟩,
   ⟨.bus, "WR_RESERVED", 0x3800, 0x3F00⟩,
   ⟨.bus, "WR_RESERVED", 0x3900, 0x3F00⟩,
   ⟨.bus, "WR_RESERVED", 0x3A00, 0x3F00⟩,
   ⟨.bus, "WR_RESERVED", 0x3B00, 0x3F00⟩,
   ⟨.bus, "WR_RESERVED", 0x3C00, 0x3F00⟩,
   ⟨.bus, "WR_RESERVED", 0x3D00, 0x3F00⟩,
   ⟨.bus, "WR_RESERVED", 0x3E00, 0x3F00⟩,
   ⟨.bus, "WR_RESERVED", 0x3F00, 0x3F00⟩]

/-- The rows of format CMD. -/
def cmdRows : List OpcodeRow :=
  [⟨.cmd, "XFER_VAL", 0x00, 0x03⟩,
   ⟨.cmd, "XFER_IDX_OR_CMP", 0x01, 0x03⟩,
   ⟨.cmd, "XFER_IDX_OR_CMP", 0x02, 0x03⟩,
   ⟨.cmd, "XFER_NONE", 0x03, 0x03⟩]

/-- A word belongs to a row (R85). -/
def OpcodeRow.covers (r : OpcodeRow) (w : Nat) : Prop := w &&& r.mask = r.pattern

end Sys2Proof
end

