-- ==== Sys2Proof/WellFormed.lean ====
section
/-! DEFINITION. Well-formed operations. Every field has exactly its encoding's width, so one check is left: the selector of
a host command byte must name an entry of the five-entry wait-match table. -/

namespace Sys2Proof

/-- `sel` is an index of the table `[0, 0, 64, 127, 255]` (R84); 5, 6, 7 point past it (R89 (a)). -/
def selectorInTable (sel : BitVec 3) : Bool := decide (sel.toNat < 5)

/-- A bus command is well formed whatever its fields (R86, R87); a host command byte if its selector is in the table. -/
def WellFormed : Instr → Bool
  | .xferVal _ sel => selectorInTable sel
  | .xferIdxOrCmp1 _ sel => selectorInTable sel
  | .xferIdxOrCmp2 _ sel => selectorInTable sel
  | .xferNone _ sel => selectorInTable sel
  | .nop _ _ _ => true
  | .rdUartRxRdy _ => true
  | .rdUartRxData _ => true
  | .rdUartTxAck _ => true
  | .rdReserved3 _ => true
  | .rdSampleRdy _ => true
  | .rdDacValCopy _ => true
  | .rdAdcValCopy _ => true
  | .rdAdcIdxCopy _ => true
  | .rdAdcCntCopy _ => true
  | .rdReserved9 _ => true
  | .rdReserved10 _ => true
  | .rdReserved11 _ => true
  | .rdReserved12 _ => true
  | .rdReserved13 _ => true
  | .rdReserved14 _ => true
  | .rdReserved15 _ => true
  | .wrReserved0 _ => true
  | .wrReserved1 _ => true
  | .wrReserved2 _ => true
  | .wrUartTxData _ => true
  | .wrReserved4 _ => true
  | .wrReserved5 _ => true
  | .wrReserved6 _ => true
  | .wrReserved7 _ => true
  | .wrReserved8 _ => true
  | .wrReserved9 _ => true
  | .wrReserved10 _ => true
  | .wrReserved11 _ => true
  | .wrReserved12 _ => true
  | .wrReserved13 _ => true
  | .wrReserved14 _ => true
  | .wrReserved15 _ => true

end Sys2Proof
end

