-- ==== Sys2Proof/Safety.lean ====
section
/-! DEFINITION. What a safe state is (the invariants of R151, with those of the status block and the host), what a tick leaves
alone, and runs of ticks: the terms the statements are written in. -/

namespace Sys2Proof

/-! ## Kinds of inputs and command bytes -/

/-- No reset: any bus command or the documented host's turn, any other input. -/
abbrev Inputs.NoReset (i : Inputs) : Prop := i.rst = false

/-- No reset, and the bus is not the documented host's: any bus command, any other input. -/
abbrev Inputs.Plain (i : Inputs) : Prop := i.rst = false ∧ i.hostTurn = false

/-- No reset, and `start` high (R294). -/
abbrev Inputs.Running (i : Inputs) : Prop := i.rst = false ∧ i.start = true

/-- The bus is the documented host's, or carries no command (R230): no other master. -/
abbrev Inputs.HostOnly (i : Inputs) : Prop := i.hostTurn = true ∨ i.busEn = false

/-- Two ticks' inputs agree on what the engine reads (R150): `rst`, `sense`, `start`. -/
abbrev Inputs.EngineSame (i j : Inputs) : Prop := i.rst = j.rst ∧ i.sense = j.sense ∧ i.start = j.start

/-- A tick in which the host may act and the serial channel is ready for a byte. -/
abbrev Inputs.HostMaySend (i : Inputs) : Prop := i.hostTurn = true ∧ i.txAck = true

/-- The ADC bytes a sample takes on the wire, by mode (R237 to R239). -/
def XferMode.adcBytes : XferMode → Nat
  | .val => 1
  | .idxOrCmp => 2
  | .none => 0

/-- The mode of a command byte (R82, R84). -/
def modeOf (b : CmdByte) : XferMode :=
  match (CmdByte.mode b).toNat with
  | 0 => .val
  | 3 => .none
  | _ => .idxOrCmp

end Sys2Proof

namespace Sys2Proof.Machine

/-! ## Invariants -/

/-- R151 (a): every engine register within its range. -/
abbrev Engine.Bounded (c : Cfg) (e : Engine) : Prop :=
  e.upCnt ≤ c.maxCnt ∧ e.downCnt ≤ c.dischargeCnt ∧ e.zeroRun ≤ 2 ∧ e.rawIndex < 2 ^ c.lutWidth ∧ e.rawCnt ≤ c.maxCnt

/-- R151 (b): the other phase's counters rest at 0. -/
abbrev Engine.PhaseClean (e : Engine) : Prop :=
  (e.phase = .discharging → e.upCnt = 0 ∧ e.zeroRun = 0) ∧ (e.phase = .charging → e.downCnt = 0)

/-- R151 (c): in a charge window `avail` says that a value is latched. -/
abbrev Engine.AvailIsLatched (e : Engine) : Prop := e.phase = .charging → e.avail = e.latched

/-- R151 (d): the value latched in a running window is the conversion of its count. -/
abbrev Engine.IndexOfCount (c : Cfg) (e : Engine) : Prop :=
  e.latched = true → e.phase = .charging → e.rawIndex = conv c e.rawCnt

/-- While a window has latched nothing, its run of low readings is shorter than 2 (from R140 to R142). -/
abbrev Engine.RunPending (e : Engine) : Prop := e.phase = .charging → e.latched = false → e.zeroRun ≤ 1

/-- The engine's invariant. -/
abbrev Engine.Inv (c : Cfg) (e : Engine) : Prop :=
  e.Bounded c ∧ e.PhaseClean ∧ e.AvailIsLatched ∧ e.IndexOfCount c ∧ e.RunPending

/-- The copy registers fit their widths (R37 to R39). -/
abbrev Status.Inv (c : Cfg) (st : Status) : Prop :=
  st.adcValCopy < 2 ^ c.res ∧ st.adcIdxCopy < 2 ^ c.lutWidth ∧ st.adcCntCopy ≤ c.maxCnt

/-- The points a stage goes through (R233 to R240). -/
def Stage.allows (st : Stage) (pt : Point) : Bool :=
  match st, pt with
  | .idle, .pollRx | .idle, .readRx | .idle, .pollSample | .idle, .readDac | .idle, .readAdc _ => true
  | .loadDac, .pollTx .dac | .loadDac, .send .dac => true
  | .loadAdc, .pollTx .adcLow | .loadAdc, .send .adcLow | .loadAdc, .pollTx .adcHigh | .loadAdc, .send .adcHigh => true
  | .waitOrFinish, .pollSample | .waitOrFinish, .readDac | .waitOrFinish, .readAdc _ => true
  | _, _ => false

/-- The host's invariant: its point belongs to its stage, it has counted fewer samples than a burst has, and none in IDLE
(R240, R245). -/
abbrev Firmware.Inv (p : HostParams) (fw : Firmware) : Prop :=
  fw.stage.allows fw.point = true ∧ fw.count < p.burstLen ∧ (fw.stage = .idle → fw.count = 0)

/-- The machine's invariant, on a valid configuration. -/
abbrev State.Inv (s : State) : Prop :=
  s.cfg.Valid ∧ s.engine.Inv s.cfg ∧ s.status.Inv s.cfg ∧ s.fw.Inv s.params

/-! ## Frames -/

/-- The block's own TICK has been performed on its registers, and a bus command has added nothing to it: the engine's step, the
status block's step without a clearing read, both under the reset override (R150, R195, R290). -/
def State.BlockTicked (s t : State) : Prop :=
  t.engine = (if s.pins.rst then Engine.reset else s.engine.tick s.cfg s.pins) ∧
    t.status = (if s.pins.rst then Status.reset else s.status.tick s.cfg s.engine s.pins.dacIn false)

/-- The engine outputs of the tick are those of the snapshot (R179). -/
def State.EngineOutputs (s t : State) : Prop :=
  t.out.charge = s.engine.chargeOut ∧ t.out.done = s.engine.doneOut s.cfg ∧ t.out.avail = s.engine.avail ∧
    t.out.val = s.engine.valOut s.cfg

/-- What no tick changes: the configuration and the host's parameters; and the tick's inputs are used up. -/
def State.Advanced (s t : State) : Prop :=
  t.cfg = s.cfg ∧ t.params = s.params ∧ t.pins = s.nextPins ∧ t.stim = s.stim.tail ∧ t.draws = s.draws + 1

/-- The tick of a bus command without a side effect on any register: the block's own TICK, its engine outputs, and no other
register touched, the host's included. -/
def State.PlainTick (s t : State) : Prop :=
  s.BlockTicked t ∧ s.EngineOutputs t ∧ s.Advanced t ∧ t.fw = s.fw

/-! ## Runs -/

/-- `n` ticks. -/
def State.run (n : Nat) (s : State) : Host.Outcome State Fault Refusal := Host.Core.run Sys2Proof.core n s

/-- The inputs of the first `n` ticks are known, and each satisfies `P`. -/
def State.InputsSatisfy (s : State) (n : Nat) (P : Inputs → Prop) : Prop :=
  n ≤ s.stim.length + 1 ∧ ∀ i ∈ (s.pins :: s.stim).take n, P i

/-- Every run of `n` ticks that completes ends in a state that `P` holds of, whoever drives the bus in each tick; and the run
completes if the documented host has no turn in it. (With host turns it completes unless a selector is open:
StepStopsOnlyWhereTheSpecRefuses.) -/
def State.AfterRun (s : State) (n : Nat) (P : State → Prop) : Prop :=
  (∀ t, s.run n = .next t → P t) ∧ (s.cfg.Valid → s.InputsSatisfy n Inputs.Plain → ∃ t, s.run n = .next t)

/-- The command byte in the host's hand, if it has one, has a selector in the table. -/
abbrev Firmware.Runnable (fw : Firmware) : Prop :=
  fw.listening = false → selectorInTable (CmdByte.sel fw.xferType) = true

/-- If this tick is a turn of the host, the host's byte in hand and the byte it may receive are not refused. -/
abbrev Inputs.HostRuns (fw : Firmware) (i : Inputs) : Prop :=
  i.hostTurn = true → fw.Runnable ∧ selectorInTable (CmdByte.sel i.rxData) = true

/-- The bytes handed to the serial channel in `n` ticks, in order (R208). -/
def sentBytes : Nat → State → List Byte
  | 0, _ => []
  | n + 1, s =>
    match step s with
    | .next t => (if t.out.txWe then [t.out.txData] else []) ++ sentBytes n t
    | .fault _ | .refused _ => []

/-- The host has counted a sample (R240, R245): the burst is over and it listens for the next command, or it waits for the
next sample. -/
def Firmware.Counted (p : HostParams) (before after : Firmware) : Prop :=
  if before.count + 1 = p.burstLen then after.count = 0 ∧ after.stage = .idle ∧ after.point = .pollRx
  else after.count = before.count + 1 ∧ after.stage = .waitOrFinish ∧ after.point = .pollSample

/-- The bytes of the current sample already sent when the host stands at a point (R235, R236). -/
def Point.sentOfSample : Point → Nat
  | .pollTx .adcLow | .send .adcLow => 1
  | .pollTx .adcHigh | .send .adcHigh => 2
  | _ => 0

end Sys2Proof.Machine
end

