-- ==== Sys2Proof/Certificates/Slice0/Obligations.lean ====
section
/-! DEFINITION. The statements for the provers. A statement about one tick of the block is about every well-formed operation
at once: its conclusion is that `exec` answers a next state, and what that state holds. Where a docstring names a decision
D<n>, the statement rests on the spec's own choice (92_eei_decisions.md); where it names a log entry, on the model's. -/

open Sys2Proof Sys2Proof.Machine

/-! ## Encoding -/

/-- Every operation, with every operand value, is what its encoding decodes to (the layout as bytes is log entry 14). -/
def Obligations.DecodingUndoesEncoding : Prop := ∀ i : Instr, decode (encode i) = .ok i

/-- Bytes that decode to an operation are that operation's encoding: the decoder reads every bit (log entry 14). -/
def Obligations.EncodingUndoesDecoding : Prop := ∀ (bs : List Byte) (i : Instr), decode bs = .ok i → encode i = bs

/-- R86: every BUS word and every CMD byte belongs to exactly one row of the opcode map, and decodes to that row's operation
(totality over BUS words is D19). -/
def Obligations.EveryWordIsOneRow : Prop :=
  (∀ w : BusWord, (decodeBus w).row ∈ busRows ∧ ∀ r ∈ busRows, r.covers w.toNat ↔ r = (decodeBus w).row) ∧
  (∀ b : CmdByte, (decodeCmd b).row ∈ cmdRows ∧ ∀ r ∈ cmdRows, r.covers b.toNat ↔ r = (decodeCmd b).row)

/-- Words written out from T6, T7 and T9 decode to the operations they stand for. T6 and T7 give 14-bit words; their layout as
two bytes, low byte first, is the model's (DESIGN CHOICE, log entry 14). -/
def Obligations.SpecWordsDecode : Prop :=
  decode [0x00, 0x00] = .ok (.nop false 0 0) ∧ decode [0xFF, 0x1F] = .ok (.nop true 15 0xFF) ∧
  decode [0x00, 0x20] = .ok (.rdUartRxRdy 0) ∧ decode [0xA5, 0x24] = .ok (.rdSampleRdy 0xA5) ∧
  decode [0x00, 0x28] = .ok (.rdAdcCntCopy 0) ∧ decode [0x00, 0x23] = .ok (.rdReserved3 0) ∧
  decode [0x41, 0x33] = .ok (.wrUartTxData 0x41) ∧ decode [0xFF, 0x34] = .ok (.wrReserved4 0xFF) ∧
  decode [0xE8] = .ok (.xferVal 7 2) ∧ decode [0x0D] = .ok (.xferIdxOrCmp1 0 3) ∧
  decode [0x12] = .ok (.xferIdxOrCmp2 0 4) ∧ decode [0x03] = .ok (.xferNone 0 0)

/-! ## The step -/

/-- On a valid configuration a step is the meaning of the decoded operation, with nothing added around it. -/
def Obligations.StepRunsTheDecodedInstruction : Prop :=
  ∀ (s : State) (i : Instr), s.cfg.Valid → decode s.fetchBytes = .ok i → step s = exec i s

/-- Which operation a tick performs: the BUS word on the ports (R81), or in the host's turn its own poll or read while it
receives a command byte (R232), and the command byte in hand afterwards (log entry 6). -/
def Obligations.TheTicksOperation : Prop :=
  ∀ s : State,
    (s.pins.hostTurn = false →
      decode s.fetchBytes =
        .ok (decodeBus (busWord s.pins.busEn s.pins.busWe s.pins.busAddr s.pins.busWdata))) ∧
    (s.pins.hostTurn = true → s.fw.point = .pollRx → decode s.fetchBytes = .ok (.rdUartRxRdy 0)) ∧
    (s.pins.hostTurn = true → s.fw.point = .readRx → decode s.fetchBytes = .ok (.rdUartRxData 0)) ∧
    (s.pins.hostTurn = true → s.fw.listening = false → decode s.fetchBytes = .ok (decodeCmd s.fw.xferType))

/-- An operation's word placed for the next tick is what the next tick fetches, and it is the table's reading of the word
(the model's own interface, log entries 14 and 15). -/
def Obligations.PlacedWordsAreFetched : Prop :=
  ∀ s : State,
    (∀ w, w < 2 ^ 14 →
      decode (s.withFetchWord 14 w).fetchBytes = .ok (decodeBus (BitVec.ofNat 14 w)) ∧
      decodeTableWord 14 w = some (decodeBus (BitVec.ofNat 14 w)) ∧
      s.withFetchWord 14 w = { s with pins := s.pins.withWord (BitVec.ofNat 14 w) }) ∧
    (∀ w, w < 2 ^ 8 →
      decode (s.withFetchWord 8 w).fetchBytes = .ok (decodeCmd (BitVec.ofNat 8 w)) ∧
      decodeTableWord 8 w = some (decodeCmd (BitVec.ofNat 8 w)) ∧
      s.withFetchWord 8 w =
        { s with pins := { s.pins with hostTurn := true }, fw := s.fw.accept (BitVec.ofNat 8 w) })

/-- A step stops only where the spec refuses: on an invalid configuration (R118, R263), or on a command byte whose selector is
past the table (R89 (a), U2); everywhere else it answers a next state (R260, D26). So a run in which the host's turns meet no
such byte, neither in hand nor on the serial input, completes (host turns are log entry 6). -/
def Obligations.StepStopsOnlyWhereTheSpecRefuses : Prop :=
  (∀ s : State,
    (∀ e, s.cfg.check = some e → step s = .refused (.config e)) ∧
    (s.cfg.Valid → s.hostBusy = true → selectorInTable (CmdByte.sel s.fw.xferType) = false →
      step s = .refused (.selectorOpen (CmdByte.sel s.fw.xferType))) ∧
    (s.cfg.Valid → (s.hostBusy = true → selectorInTable (CmdByte.sel s.fw.xferType) = true) →
      ∃ t, step s = .next t)) ∧
  (∀ (s : State) (n : Nat), s.cfg.Valid → s.InputsSatisfy n (Inputs.HostRuns s.fw) → ∃ t, s.run n = .next t)

/-! ## The engine: discharging -/

/-- R133: a discharge tick before the last counts and changes nothing else of the engine but the synchronizer, which the spec
has shift in DISCHARGING too (D5, log entry 16); so a discharge runs through `down_cnt` = 0 to `discharge_cnt`, and the tick
after that ends it, into CHARGING with `start` high, into a new discharge with `start` low (R134, R135; D10, D11). The runs are
over any ticks without reset, host turns (log entry 6) among them. -/
def Obligations.DischargeTicksCountUp : Prop :=
  (∀ (i : Instr) (s : State), WellFormed i = true → s.pins.rst = false → s.engine.phase = .discharging →
    s.engine.downCnt ≠ s.cfg.dischargeCnt →
    ∃ t, exec i s = .next t ∧
      t.engine = { s.engine with downCnt := s.engine.downCnt + 1, sync0 := s.pins.sense, sync1 := s.engine.sync0 }) ∧
  (∀ (s : State) (n : Nat), s.cfg.Valid → s.engine.phase = .discharging → s.engine.downCnt = 0 →
    n ≤ s.cfg.dischargeCnt → s.InputsSatisfy n Inputs.NoReset →
    s.AfterRun n fun t => t.engine.phase = .discharging ∧ t.engine.downCnt = n) ∧
  (∀ (s : State) (last : Inputs), s.cfg.Valid → s.engine.phase = .discharging → s.engine.downCnt = 0 →
    s.InputsSatisfy (s.cfg.dischargeCnt + 1) Inputs.NoReset → (s.pins :: s.stim)[s.cfg.dischargeCnt]? = some last →
    s.AfterRun (s.cfg.dischargeCnt + 1) fun t => t.out.done = true ∧ t.engine.downCnt = 0 ∧
      (last.start = true → t.engine.phase = .charging) ∧ (last.start = false → t.engine.phase = .discharging))

/-- R134, R135 (D10, D11): the done tick pulses `done`, restarts `down_cnt`, clears `latched`; with `start` high it enters
CHARGING and clears `avail`, with `start` low it begins a new discharge. -/
def Obligations.DoneTickEndsTheDischarge : Prop :=
  ∀ (i : Instr) (s : State), WellFormed i = true → s.pins.rst = false → s.engine.phase = .discharging →
    s.engine.downCnt = s.cfg.dischargeCnt →
    ∃ t, exec i s = .next t ∧ t.out.done = true ∧
      t.engine = { s.engine with
        downCnt := 0, latched := false, sync0 := s.pins.sense, sync1 := s.engine.sync0,
        phase := if s.pins.start then .charging else .discharging,
        avail := if s.pins.start then false else s.engine.avail }

/-! ## The engine: charging -/

/-- R138: a charge tick before the last counts, with `charge` high; the k-th tick of a window has `up_cnt = k`, in every run
without reset, whoever drives the bus. -/
def Obligations.ChargeTicksCountUp : Prop :=
  (∀ (i : Instr) (s : State), WellFormed i = true → s.pins.rst = false → s.engine.phase = .charging →
    s.engine.upCnt ≠ s.cfg.maxCnt →
    ∃ t, exec i s = .next t ∧ t.out.charge = true ∧ t.engine.phase = .charging ∧
      t.engine.upCnt = s.engine.upCnt + 1 ∧ t.engine.downCnt = s.engine.downCnt) ∧
  (∀ (s : State) (k : Nat), s.cfg.Valid → s.engine.phase = .charging → s.engine.upCnt = 0 → k ≤ s.cfg.maxCnt →
    s.InputsSatisfy k Inputs.NoReset → s.AfterRun k fun t => t.engine.phase = .charging ∧ t.engine.upCnt = k)

/-- R139: the timeout tick ends the window, crossing or not, so a window has exactly `max_cnt + 1` ticks: after every smaller
number of ticks the phase is still CHARGING, after that number it is DISCHARGING, in every run without reset. -/
def Obligations.TimeoutEndsTheWindow : Prop :=
  (∀ (i : Instr) (s : State), WellFormed i = true → s.pins.rst = false → s.engine.phase = .charging →
    s.engine.upCnt = s.cfg.maxCnt →
    ∃ t, exec i s = .next t ∧ t.engine.upCnt = 0 ∧ t.engine.zeroRun = 0 ∧ t.engine.phase = .discharging ∧
      t.engine.downCnt = s.engine.downCnt) ∧
  (∀ s : State, s.cfg.Valid → s.engine.phase = .charging → s.engine.upCnt = 0 →
    s.InputsSatisfy (s.cfg.maxCnt + 1) Inputs.NoReset →
    (∀ k, k ≤ s.cfg.maxCnt → s.AfterRun k fun t => t.engine.phase = .charging) ∧
    s.AfterRun (s.cfg.maxCnt + 1) fun t => t.engine.phase = .discharging ∧ t.engine.upCnt = 0)

/-- R140 (D6): in CHARGING, but for the timeout tick, `zero_run` counts consecutive low readings up to 2; in DISCHARGING it
rests. -/
def Obligations.DebounceCountsLowReadings : Prop :=
  ∀ (i : Instr) (s : State), WellFormed i = true → s.pins.rst = false →
    ∃ t, exec i s = .next t ∧
      (s.engine.phase = .charging → s.engine.upCnt ≠ s.cfg.maxCnt → s.engine.sync1 = false →
        t.engine.zeroRun = min (s.engine.zeroRun + 1) 2) ∧
      (s.engine.phase = .charging → s.engine.upCnt ≠ s.cfg.maxCnt → s.engine.sync1 = true → t.engine.zeroRun = 0) ∧
      (s.engine.phase = .discharging → t.engine.zeroRun = s.engine.zeroRun)

/-- R141, R142 (D7, D9): the second consecutive low reading of a window that has latched nothing latches the conversion of the
tick's count, the timeout tick included. -/
def Obligations.HitLatchesTheCount : Prop :=
  ∀ (i : Instr) (s : State), WellFormed i = true → s.pins.rst = false → s.engine.phase = .charging →
    s.engine.sync1 = false → s.engine.zeroRun = 1 → s.engine.latched = false →
    ∃ t, exec i s = .next t ∧ t.engine.rawIndex = conv s.cfg s.engine.upCnt ∧ t.engine.rawCnt = s.engine.upCnt ∧
      t.engine.latched = true ∧ t.engine.avail = true

/-- R146 (D8): a window that ends with nothing latched and no hit is given the all-ones index. -/
def Obligations.NeverTripForcesTheTopIndex : Prop :=
  ∀ (i : Instr) (s : State), WellFormed i = true → s.pins.rst = false → s.engine.phase = .charging →
    s.engine.upCnt = s.cfg.maxCnt → s.engine.latched = false → ¬(s.engine.sync1 = false ∧ s.engine.zeroRun = 1) →
    ∃ t, exec i s = .next t ∧ t.engine.rawIndex = 2 ^ s.cfg.lutWidth - 1 ∧ t.engine.rawCnt = s.cfg.maxCnt ∧
      t.engine.latched = true ∧ t.engine.avail = true ∧ t.engine.phase = .discharging

/-- The result registers have no writer but the two latches: without a hit and without a never-trip, `raw_index` and `raw_cnt`
stay, and `latched` and `avail` change in a done tick only (R134, R135). That nothing else clears `avail` is the spec's choice
D12 against another sentence of the source (C2, log entry 16). -/
def Obligations.OnlyALatchWritesTheSample : Prop :=
  ∀ (i : Instr) (s : State), WellFormed i = true → s.pins.rst = false → s.engine.hit = false →
    s.engine.neverTrip s.cfg = false →
    ∃ t, exec i s = .next t ∧ t.engine.rawIndex = s.engine.rawIndex ∧ t.engine.rawCnt = s.engine.rawCnt ∧
      (s.engine.doneOut s.cfg = false → t.engine.latched = s.engine.latched ∧ t.engine.avail = s.engine.avail)

/-- R130 (D5): the synchronizer shifts in every tick, so `cmp` is what `sense` was two ticks before. -/
def Obligations.SynchronizerDelaysTwoTicks : Prop :=
  ∀ (i j : Instr) (s : State), WellFormed i = true → WellFormed j = true → s.pins.rst = false →
    s.nextPins.rst = false →
    ∃ t u, exec i s = .next t ∧ exec j t = .next u ∧ t.engine.sync0 = s.pins.sense ∧ t.engine.sync1 = s.engine.sync0 ∧
      u.engine.sync1 = s.pins.sense

/-- R143: the conversion is the exact floor arithmetic of its formula, on a product of at most `2^16`. -/
def Obligations.ConversionIsExact : Prop :=
  (∀ (c : Cfg) (u : Nat), conv c u = u / 2 ^ c.clkShiftAmt * c.convFactor / 2 ^ c.convPrecision) ∧
  (∀ (c : Cfg) (u : Nat), c.Valid → u ≤ c.maxCnt → u / 2 ^ c.clkShiftAmt * c.convFactor ≤ 2 ^ 16)

/-- R144 (derived there): on a valid configuration the product stays below `2^16`, the index fits, the conversion is monotone,
and the last index is within `2^(2·lut_width-16) + 1` of `2^lut_width`. -/
def Obligations.ConversionFitsTheIndex : Prop :=
  ∀ c : Cfg, c.Valid →
    (∀ u, u ≤ c.maxCnt → (u >>> c.clkShiftAmt) * c.convFactor ≤ 65535 ∧ conv c u ≤ 2 ^ c.lutWidth - 1) ∧
    (∀ u v, u ≤ v → conv c u ≤ conv c v) ∧
    2 ^ (c.lutWidth + 16) ≤ (conv c c.maxCnt + 1) * 2 ^ 16 + 2 ^ (2 * c.lutWidth)

/-- Example X2 of the source: a hit comes after exactly two consecutive low readings in CHARGING: the tick before it was the
first low reading, in the same window. That both readings lie in one window, and which tick is the hit, are the spec's choices
D6 and D7 (N18, log entry 16). -/
def Obligations.HitNeedsTwoLowReadings : Prop :=
  ∀ (i : Instr) (s t : State), s.engine.PhaseClean → exec i s = .next t → t.engine.hit = true →
    s.engine.phase = .charging ∧ s.engine.sync1 = false ∧ s.engine.zeroRun = 0 ∧ s.engine.latched = false ∧
      t.engine.sync1 = false ∧ t.engine.upCnt = s.engine.upCnt + 1

/-- R177: a sample that is available stays as it is, and stays available until the done tick that starts the next
conversion; that `avail` falls there and not at the end of the window is the spec's choice D12 (R174, C2, log entry 16). -/
def Obligations.AvailableSampleIsStable : Prop :=
  ∀ (i : Instr) (s : State), WellFormed i = true → s.Inv → s.pins.rst = false → s.engine.avail = true →
    ∃ t, exec i s = .next t ∧ t.engine.rawIndex = s.engine.rawIndex ∧ t.engine.rawCnt = s.engine.rawCnt ∧
      t.engine.valOut t.cfg = s.engine.valOut s.cfg ∧
      (t.engine.avail = false ↔ s.engine.doneOut s.cfg = true ∧ s.pins.start = true)

/-- R151 (e), the spec's own derivation: every charge window ends with a sample: DISCHARGING entered from CHARGING begins with
`avail` and `latched`. For a window without a hit this is the spec's mechanism D8 (C9, log entry 16). -/
def Obligations.EveryWindowEndsWithASample : Prop :=
  ∀ (i : Instr) (s : State), WellFormed i = true → s.Inv → s.pins.rst = false → s.engine.timeout s.cfg = true →
    ∃ t, exec i s = .next t ∧ t.engine.phase = .discharging ∧ t.engine.downCnt = 0 ∧ t.engine.avail = true ∧
      t.engine.latched = true

/-! ## The outputs -/

/-- R170, R171, R173, R175 (R179; D10, D14, D23): the engine's outputs are functions of the snapshot alone. -/
def Obligations.OutputsAreOfTheSnapshot : Prop :=
  ∀ (i : Instr) (s : State), WellFormed i = true →
    ∃ t, exec i s = .next t ∧ (t.out.charge = true ↔ s.engine.phase = .charging) ∧
      (t.out.done = true ↔ s.engine.phase = .discharging ∧ s.engine.downCnt = s.cfg.dischargeCnt) ∧
      t.out.avail = s.engine.avail ∧
      (s.cfg.rawMode = true → t.out.val = s.engine.rawIndex % 2 ^ s.cfg.res) ∧
      (s.cfg.rawMode = false → ∀ e, s.cfg.table[s.engine.rawIndex]? = some e → t.out.val = e)

/-- R175, R114: under the invariant the lookup never leaves the table, and the code fits `res` bits. -/
def Obligations.CodeFitsItsWidth : Prop :=
  ∀ (i : Instr) (s : State), WellFormed i = true → s.Inv →
    ∃ t, exec i s = .next t ∧ t.out.val < 2 ^ s.cfg.res ∧
      (s.cfg.rawMode = false → s.cfg.table[s.engine.rawIndex]? = some t.out.val)

/-- R176 (derived there), X4: the tick after a never-trip window announces the largest code: the table's last entry, or in raw
mode the all-ones code of the narrower of the two widths. -/
def Obligations.NeverTripGivesTheTopCode : Prop :=
  ∀ (i j : Instr) (s : State), WellFormed i = true → WellFormed j = true → s.cfg.Valid → s.pins.rst = false →
    s.engine.neverTrip s.cfg = true →
    ∃ t u, exec i s = .next t ∧ exec j t = .next u ∧ u.out.avail = true ∧ u.out.charge = false ∧
      (s.cfg.rawMode = false → s.cfg.table[2 ^ s.cfg.lutWidth - 1]? = some u.out.val) ∧
      (s.cfg.rawMode = true → s.cfg.res ≤ s.cfg.lutWidth → u.out.val = 2 ^ s.cfg.res - 1) ∧
      (s.cfg.rawMode = true → s.cfg.lutWidth < s.cfg.res → u.out.val = 2 ^ s.cfg.lutWidth - 1)

/-! ## The status block -/

/-- R190, R191, R193, R194 (D16, D17): the done tick of a finished conversion sets the flag and captures the four copies at one
edge, whatever the flag was and whatever the tick's command. -/
def Obligations.StrobeCapturesTheSample : Prop :=
  ∀ (i : Instr) (s : State), WellFormed i = true → s.pins.rst = false → s.engine.phase = .discharging →
    s.engine.downCnt = s.cfg.dischargeCnt → s.engine.avail = true →
    ∃ t, exec i s = .next t ∧ t.status.sampleRdy = true ∧ t.status.dacValCopy = s.pins.dacIn ∧
      t.status.adcValCopy = t.out.val ∧ t.status.adcIdxCopy = s.engine.rawIndex ∧
      t.status.adcCntCopy = s.engine.rawCnt

/-- R192, R194: without a strobe the copies stay, and the flag falls only to a read of address 4, which among the host command
bytes is the host's poll for a sample. -/
def Obligations.NoStrobeLeavesTheCopies : Prop :=
  ∀ (i : Instr) (s : State), WellFormed i = true → s.pins.rst = false → s.engine.strobe s.cfg = false →
    ∃ t, exec i s = .next t ∧
      (((∃ wd, i = .rdSampleRdy wd) ∨ (i.format = .cmd ∧ (s.fw.point = .pollSample ∨ s.fw.listening = true))) →
        t.status = { s.status with sampleRdy := false }) ∧
      (¬((∃ wd, i = .rdSampleRdy wd) ∨ (i.format = .cmd ∧ (s.fw.point = .pollSample ∨ s.fw.listening = true))) →
        t.status = s.status)

/-- R210: the words of RD_SAMPLE_RDY; it answers the old flag and clears it at the edge unless the strobe sets it; nothing
else changes but by the block's own tick. The strobe tick and its winning over the clear are the spec's choices D16 and D17, the
reset override D3, the BUS word D21 (log entry 20); the inputs, the draw counter and the host are the model's (log entries 3, 5,
6). -/
def Obligations.ReadingSampleRdyReturnsAndClears : Prop :=
  (∀ w : BusWord, w &&& 0x3F00 = 0x2400 → decodeBus w = .rdSampleRdy (BusWord.wdata w)) ∧
  ∀ (wd : Byte) (s : State),
    ∃ t, exec (.rdSampleRdy wd) s = .next t ∧ t.out.rdata = (if s.status.sampleRdy then 1 else 0) ∧
      t.out.txWe = false ∧ t.out.serRd = 0 ∧
      (s.pins.rst = false → s.engine.strobe s.cfg = true →
        t.status = s.engine.capture s.cfg s.pins.dacIn ∧ t.status.sampleRdy = true) ∧
      (s.pins.rst = false → s.engine.strobe s.cfg = false → t.status = { s.status with sampleRdy := false }) ∧
      (s.pins.rst = true → t.status = Status.reset) ∧
      t.engine = (if s.pins.rst then Engine.reset else s.engine.tick s.cfg s.pins) ∧
      s.EngineOutputs t ∧ s.Advanced t ∧ t.fw = s.fw

/-- R210 corner cases (b), (c): of two reads in consecutive ticks the second finds the flag clear, unless the first fell in
the strobe tick: then it finds it set, because set wins, the spec's choice D17 (log entry 20). -/
def Obligations.SecondReadFindsTheFlagClear : Prop :=
  ∀ (wd wd2 : Byte) (s : State), s.pins.rst = false →
    ∃ t u, exec (.rdSampleRdy wd) s = .next t ∧ exec (.rdSampleRdy wd2) t = .next u ∧
      (s.engine.strobe s.cfg = false → u.out.rdata = 0) ∧ (s.engine.strobe s.cfg = true → u.out.rdata = 1)

/-- R211 to R214: the words of the reads of addresses 5 to 8; they answer the copies of the snapshot, the low 16 bits where a
register is wider, and have no side effect. The frame holds more than these rules: the reset override (D3) and the BUS word
(D21, log entry 20), the inputs, the draw counter and the host (log entries 3, 5, 6). -/
def Obligations.CopyReadsReturnTheCopies : Prop :=
  (∀ w : BusWord,
    (w &&& 0x3F00 = 0x2500 → decodeBus w = .rdDacValCopy (BusWord.wdata w)) ∧
    (w &&& 0x3F00 = 0x2600 → decodeBus w = .rdAdcValCopy (BusWord.wdata w)) ∧
    (w &&& 0x3F00 = 0x2700 → decodeBus w = .rdAdcIdxCopy (BusWord.wdata w)) ∧
    (w &&& 0x3F00 = 0x2800 → decodeBus w = .rdAdcCntCopy (BusWord.wdata w))) ∧
  ∀ (wd : Byte) (s : State),
    (∃ t, exec (.rdDacValCopy wd) s = .next t ∧ t.out.rdata.toNat = s.status.dacValCopy.toNat ∧ t.out.txWe = false ∧
      t.out.serRd = 0 ∧ s.PlainTick t) ∧
    (∃ t, exec (.rdAdcValCopy wd) s = .next t ∧ t.out.rdata.toNat = s.status.adcValCopy % 2 ^ 16 ∧
      t.out.txWe = false ∧ t.out.serRd = 0 ∧ s.PlainTick t) ∧
    (∃ t, exec (.rdAdcIdxCopy wd) s = .next t ∧ t.out.rdata.toNat = s.status.adcIdxCopy % 2 ^ 16 ∧
      t.out.txWe = false ∧ t.out.serRd = 0 ∧ s.PlainTick t) ∧
    (∃ t, exec (.rdAdcCntCopy wd) s = .next t ∧ t.out.rdata.toNat = s.status.adcCntCopy % 2 ^ 16 ∧
      t.out.txWe = false ∧ t.out.serRd = 0 ∧ s.PlainTick t)

/-! ## The serial addresses, reserved commands, NOP -/

/-- R205 to R207: the words of the reads of addresses 0 to 2; they answer this tick's serial inputs and pulse their bit of
`ser_rd`; no register of the block changes but by its own tick. The host's own state moves only if the read was the host's own,
in its receive primitive (log entry 6). The pass-through (D20), the BUS word (D21) and the reset override (D3) are log entry 20,
the inputs and the draw counter log entries 3 and 5. -/
def Obligations.SerialReadsPassThrough : Prop :=
  (∀ w : BusWord,
    (w &&& 0x3F00 = 0x2000 → decodeBus w = .rdUartRxRdy (BusWord.wdata w)) ∧
    (w &&& 0x3F00 = 0x2100 → decodeBus w = .rdUartRxData (BusWord.wdata w)) ∧
    (w &&& 0x3F00 = 0x2200 → decodeBus w = .rdUartTxAck (BusWord.wdata w))) ∧
  ∀ (wd : Byte) (s : State),
    (∃ t, exec (.rdUartRxRdy wd) s = .next t ∧ t.out.rdata = (if s.pins.rxRdy then 1 else 0) ∧ t.out.serRd = 1 ∧
      t.out.txWe = false ∧ s.BlockTicked t ∧ s.EngineOutputs t ∧ s.Advanced t ∧
      (¬(s.pins.hostTurn = true ∧ s.fw.point = .pollRx) → t.fw = s.fw)) ∧
    (∃ t, exec (.rdUartRxData wd) s = .next t ∧ t.out.rdata.toNat = s.pins.rxData.toNat ∧ t.out.serRd = 2 ∧
      t.out.txWe = false ∧ s.BlockTicked t ∧ s.EngineOutputs t ∧ s.Advanced t ∧
      (¬(s.pins.hostTurn = true ∧ s.fw.point = .readRx) → t.fw = s.fw)) ∧
    (∃ t, exec (.rdUartTxAck wd) s = .next t ∧ t.out.rdata = (if s.pins.txAck then 1 else 0) ∧ t.out.serRd = 4 ∧
      t.out.txWe = false ∧ s.PlainTick t)

/-- R208: the words of WR_UART_TX_DATA; it hands the byte to the serial channel, whatever `tx_ack` is, and the block stores
nothing. That no other tick does so is StrobesOnlyOnSerialCommands. -/
def Obligations.TransmitHandsTheByteOn : Prop :=
  (∀ w : BusWord, w &&& 0x3F00 = 0x3300 → decodeBus w = .wrUartTxData (BusWord.wdata w)) ∧
  ∀ (wd : Byte) (s : State),
    ∃ t, exec (.wrUartTxData wd) s = .next t ∧ t.out.txWe = true ∧ t.out.txData = wd ∧ t.out.serRd = 0 ∧ s.PlainTick t

/-- R215 (D19): every reserved read completes; its data is the tick's draw of RESERVED_READ, and it changes nothing. -/
def Obligations.ReservedReadsChangeNothing : Prop :=
  ∀ (wd : Byte) (s : State) (i : Instr),
    i ∈ [.rdReserved3 wd, .rdReserved9 wd, .rdReserved10 wd, .rdReserved11 wd, .rdReserved12 wd, .rdReserved13 wd,
      .rdReserved14 wd, .rdReserved15 wd] →
    ∃ t, exec i s = .next t ∧ t.out.rdata = Config.reservedRead s.draws ∧ t.out.txWe = false ∧ t.out.serRd = 0 ∧
      s.PlainTick t

/-- R216 (D19): every reserved write completes and is ignored; in particular a write to address 4 does not clear the flag. -/
def Obligations.ReservedWritesAreIgnored : Prop :=
  ∀ (wd : Byte) (s : State) (i : Instr),
    i ∈ [.wrReserved0 wd, .wrReserved1 wd, .wrReserved2 wd, .wrReserved4 wd, .wrReserved5 wd, .wrReserved6 wd,
      .wrReserved7 wd, .wrReserved8 wd, .wrReserved9 wd, .wrReserved10 wd, .wrReserved11 wd, .wrReserved12 wd,
      .wrReserved13 wd, .wrReserved14 wd, .wrReserved15 wd] →
    ∃ t, exec i s = .next t ∧ t.out.txWe = false ∧ t.out.serRd = 0 ∧ s.PlainTick t

/-- R202 (D28): NOP, whatever its ignored fields, is the block's tick and nothing else. -/
def Obligations.NopIsTheBlocksTick : Prop :=
  ∀ (we : Bool) (addr : RegAddr) (wd : Byte) (s : State),
    ∃ t, exec (.nop we addr wd) s = .next t ∧ t.out.txWe = false ∧ t.out.serRd = 0 ∧ s.PlainTick t

/-- R217: the multiplexer in one piece gives, for every BUS word, what the commands' own rules give. -/
def Obligations.MultiplexerEqualsTheCommands : Prop :=
  ∀ (w : BusWord) (s : State), ∃ t, exec (decodeBus w) s = .next t ∧ t.withFw s.fw = s.tick (s.busEffect w)

/-- R208, R209 (D20): over all BUS words, `ser_rd[a]` pulses exactly on a read of serial address `a`, and `tx_we` exactly on a
write of address 3. -/
def Obligations.StrobesOnlyOnSerialCommands : Prop :=
  ∀ (w : BusWord) (s : State),
    ∃ t, exec (decodeBus w) s = .next t ∧
      (∀ a : Nat, a < 3 → (t.out.serRd.getLsbD a = true ↔
        BusWord.en w = true ∧ BusWord.we w = false ∧ (BusWord.addr w).toNat = a)) ∧
      (t.out.txWe = true ↔ BusWord.en w = true ∧ BusWord.we w = true ∧ (BusWord.addr w).toNat = 3) ∧
      (t.out.txWe = true → t.out.txData = BusWord.wdata w)

/-! ## Reset -/

/-- R290, R45 (D3): a tick with `rst` high leaves the block in its reset state, whatever the tick's operation, and its outputs
are still those of the snapshot. -/
def Obligations.ResetTickClearsTheBlock : Prop :=
  ∀ (i : Instr) (s : State), WellFormed i = true → s.pins.rst = true →
    ∃ t, exec i s = .next t ∧
      t.engine = { phase := .discharging, upCnt := 0, downCnt := 0, sync0 := false, sync1 := false, zeroRun := 0,
                   latched := false, avail := false, rawIndex := 0, rawCnt := 0 } ∧
      t.status = { sampleRdy := false, dacValCopy := 0, adcValCopy := 0, adcIdxCopy := 0, adcCntCopy := 0 } ∧
      s.EngineOutputs t

/-- R45, R231 (D3 but for the phase): the block's registers and the host's stage and count after reset. -/
def Obligations.StateAfterReset : Prop :=
  State.reset.engine.phase = .discharging ∧ State.reset.engine.upCnt = 0 ∧ State.reset.engine.downCnt = 0 ∧
  State.reset.engine.sync0 = false ∧ State.reset.engine.sync1 = false ∧ State.reset.engine.zeroRun = 0 ∧
  State.reset.engine.latched = false ∧ State.reset.engine.avail = false ∧ State.reset.engine.rawIndex = 0 ∧
  State.reset.engine.rawCnt = 0 ∧ State.reset.status.sampleRdy = false ∧ State.reset.status.dacValCopy = 0 ∧
  State.reset.status.adcValCopy = 0 ∧ State.reset.status.adcIdxCopy = 0 ∧ State.reset.status.adcCntCopy = 0 ∧
  State.reset.fw.stage = .idle ∧ State.reset.fw.count = 0

/-! ## Invariants and runs -/

/-- The reset state satisfies the invariant, its reference configuration being valid (R118). -/
def Obligations.ResetStateIsSafe : Prop := State.reset.Inv

/-- R151 (a) to (d) with the widths of the copies (R37 to R39) and the host's invariants (R240, R245): every step keeps them,
from every state that has them. -/
def Obligations.StepKeepsTheInvariant : Prop := ∀ s t : State, s.Inv → step s = .next t → t.Inv

/-- R21: no step writes the configuration, the table included, nor the host's parameters. -/
def Obligations.StepKeepsTheConstants : Prop :=
  ∀ s t : State, step s = .next t → t.cfg = s.cfg ∧ t.params = s.params

/-- R247: the host cannot reset the block, start a conversion or write an engine register: over any number of ticks the engine
depends on its configuration, its own state and `rst`, `sense`, `start`, and on nothing of the bus or the host. -/
def Obligations.EngineIgnoresTheBus : Prop :=
  ∀ (n : Nat) (s1 s2 t1 t2 : State), s1.cfg = s2.cfg → s1.engine = s2.engine →
    Inputs.EngineSame s1.pins s2.pins → List.Forall₂ Inputs.EngineSame s1.stim s2.stim → n ≤ s1.stim.length + 1 →
    s1.run n = .next t1 → s2.run n = .next t2 → t1.engine = t2.engine

/-- R310, R151 (f) (derived there): with `start` high the next done tick after a done tick comes exactly
`max_cnt + discharge_cnt + 2` ticks later, none between, and it is a strobe: by D12 `avail` is still high there and by D16 the
done tick with `avail` is the strobe (log entries 16, 20). In every run without reset, whoever drives the bus. -/
def Obligations.ConversionPeriod : Prop :=
  ∀ (s : State) (k : Nat), s.Inv → s.engine.doneOut s.cfg = true →
    s.InputsSatisfy (s.cfg.maxCnt + s.cfg.dischargeCnt + 2) Inputs.Running →
    0 < k → k ≤ s.cfg.maxCnt + s.cfg.dischargeCnt + 2 →
    s.AfterRun k fun t =>
      (t.engine.doneOut t.cfg = true ↔ k = s.cfg.maxCnt + s.cfg.dischargeCnt + 2) ∧
      (t.engine.strobe t.cfg = true ↔ k = s.cfg.maxCnt + s.cfg.dischargeCnt + 2)

/-- R292 (derived there): after reset with `start` high, the first done tick is `discharge_cnt` and is no strobe; the first
strobe is tick `2·discharge_cnt + max_cnt + 2`. The reset engine is the spec's choice D3, the strobe D16 with D12 (log entries
16, 20). In every run without reset, whoever drives the bus. -/
def Obligations.FirstStrobeAfterReset : Prop :=
  ∀ (s : State) (k : Nat), s.cfg.Valid → s.engine = Engine.reset →
    s.InputsSatisfy (2 * s.cfg.dischargeCnt + s.cfg.maxCnt + 2) Inputs.Running →
    k ≤ 2 * s.cfg.dischargeCnt + s.cfg.maxCnt + 2 →
    s.AfterRun k fun t =>
      (t.engine.doneOut t.cfg = true ↔
        k = s.cfg.dischargeCnt ∨ k = 2 * s.cfg.dischargeCnt + s.cfg.maxCnt + 2) ∧
      (t.engine.strobe t.cfg = true ↔ k = 2 * s.cfg.dischargeCnt + s.cfg.maxCnt + 2)

/-- R142, R304 (derived there): if `sense` is first low in charge tick `j` and low again in `j + 1`, the latch is in charge tick
`j + 3`, not before, with the count `j + 3` (the latch tick is the spec's choice D7, log entry 16). In every run without reset,
whoever drives the bus. -/
def Obligations.CrossingIsLatchedThreeTicksLater : Prop :=
  ∀ (s : State) (next : Inputs) (rest : List Inputs), s.engine.phase = .charging →
    s.engine.latched = false → s.engine.sync0 = true → s.engine.sync1 = true → s.engine.upCnt + 3 ≤ s.cfg.maxCnt →
    s.stim = next :: rest → s.pins.sense = false → next.sense = false → s.InputsSatisfy 4 Inputs.NoReset →
    (s.AfterRun 3 fun t => t.engine.latched = false) ∧
    s.AfterRun 4 fun t =>
      t.engine.latched = true ∧ t.engine.avail = true ∧ t.engine.rawCnt = s.engine.upCnt + 3 ∧
      t.engine.rawIndex = conv s.cfg (s.engine.upCnt + 3)

/-! ## The host -/

/-- R232, R233 (D28): in its turn the host polls address 0 until it reads 1 and then takes the byte of address 1 as its command,
which it carries out from IDLE's wait for a sample. -/
def Obligations.HostReceivesACommandByte : Prop :=
  ∀ (wd : Byte) (s : State), s.pins.hostTurn = true →
    (s.fw.point = .pollRx →
      ∃ t, exec (.rdUartRxRdy wd) s = .next t ∧
        t.fw = { s.fw with point := if s.pins.rxRdy then .readRx else .pollRx }) ∧
    (s.fw.point = .readRx →
      ∃ t, exec (.rdUartRxData wd) s = .next t ∧
        t.fw = { s.fw with xferType := s.pins.rxData, stage := .idle, point := .pollSample })

/-- R232 (D28): the host's two other polls wait for 1: SAMPLE_RDY before it reads a sample (the poll clears the flag, R192), and
UART_TX_ACK before it sends a byte. -/
def Obligations.HostPollsUntilOne : Prop :=
  ∀ (b : CmdByte) (s : State), selectorInTable (CmdByte.sel b) = true →
    (s.fw.point = .pollSample →
      ∃ t, exec (decodeCmd b) s = .next t ∧ t.out.rdata = (if s.status.sampleRdy then 1 else 0) ∧
        (s.pins.rst = false → s.engine.strobe s.cfg = false → t.status.sampleRdy = false) ∧
        t.fw = { s.fw with xferType := b, point := if s.status.sampleRdy then .readDac else .pollSample }) ∧
    (∀ x, s.fw.point = .pollTx x →
      ∃ t, exec (decodeCmd b) s = .next t ∧ t.out.rdata = (if s.pins.txAck then 1 else 0) ∧ t.out.serRd = 4 ∧
        t.fw = { s.fw with xferType := b, point := if s.pins.txAck then .send x else .pollTx x })

/-- R232, R237, R238 (D27, D28): a sample is read from DAC_VAL_COPY, then from the mode's ADC field: address 6 in mode 0,
WIDE_FIELD_ADDR in modes 1 and 2, an open address in mode 3 (log entry 9); each read writes its own field of the host and no
other data of it. -/
def Obligations.HostReadsTheSample : Prop :=
  ∀ (b : CmdByte) (s : State), selectorInTable (CmdByte.sel b) = true →
    (s.fw.point = .readDac →
      ∃ t, exec (decodeCmd b) s = .next t ∧ t.fw.dacVal = s.status.dacValCopy ∧
        t.fw.adcVal = s.fw.adcVal ∧ t.fw.count = s.fw.count ∧ t.fw.xferType = b ∧
        (modeOf b = .val → t.fw.point = .readAdc .val ∧ t.fw.stage = s.fw.stage) ∧
        (modeOf b = .idxOrCmp → t.fw.point = .readAdc s.params.wideField.field ∧ t.fw.stage = s.fw.stage) ∧
        (modeOf b = .none → t.fw.point = .readAdc s.params.noneField ∧ t.fw.stage = s.fw.stage)) ∧
    (s.fw.point = .readAdc .val →
      ∃ t, exec (decodeCmd b) s = .next t ∧ t.fw.adcVal = BitVec.ofNat 16 s.status.adcValCopy ∧
        t.fw.dacVal = s.fw.dacVal ∧ t.fw.count = s.fw.count ∧ t.fw.xferType = b) ∧
    (s.fw.point = .readAdc .idx →
      ∃ t, exec (decodeCmd b) s = .next t ∧ t.fw.adcVal = BitVec.ofNat 16 s.status.adcIdxCopy ∧
        t.fw.dacVal = s.fw.dacVal ∧ t.fw.count = s.fw.count ∧ t.fw.xferType = b) ∧
    (s.fw.point = .readAdc .cnt →
      ∃ t, exec (decodeCmd b) s = .next t ∧ t.fw.adcVal = BitVec.ofNat 16 s.status.adcCntCopy ∧
        t.fw.dacVal = s.fw.dacVal ∧ t.fw.count = s.fw.count ∧ t.fw.xferType = b)

/-- R234, R241: in IDLE a sample passes the filter if `sel = 0`, or if its DAC byte equals the table's entry, and is otherwise
discarded for the next one; in a running burst there is no filter. In every mode a sample ends with the read of an ADC field
(R232), and the filter's outcome commits in that read's tick (DESIGN CHOICE, log entry 7); that a running burst sends its DAC byte
in stage LOAD_DAC is DEDUCED (log entry 17). -/
def Obligations.HostFiltersInIdleOnly : Prop :=
  ∀ (b : CmdByte) (s : State) (f : AdcField) (v : Byte), s.fw.point = .readAdc f →
    waitTable[(CmdByte.sel b).toNat]? = some v →
    ∃ t, exec (decodeCmd b) s = .next t ∧ t.fw.dacVal = s.fw.dacVal ∧ t.fw.count = s.fw.count ∧
      (s.fw.stage = .idle → CmdByte.sel b ≠ 0 → s.fw.dacVal ≠ v → t.fw.stage = .idle ∧ t.fw.point = .pollSample) ∧
      (s.fw.stage = .idle → (CmdByte.sel b = 0 ∨ s.fw.dacVal = v) →
        t.fw.stage = .loadDac ∧ t.fw.point = .pollTx .dac) ∧
      (s.fw.stage = .waitOrFinish → t.fw.stage = .loadDac ∧ t.fw.point = .pollTx .dac)

/-- R235 to R239: the DAC byte goes out first; then mode 0 sends the low byte of `adc_val`, modes 1 and 2 the low byte and the
high byte, mode 3 nothing. Sending changes none of the host's sample data. That stage and count change in the tick that sends the
byte is the model's (DESIGN CHOICE, log entry 7). -/
def Obligations.HostSendsTheSample : Prop :=
  ∀ (b : CmdByte) (s : State), selectorInTable (CmdByte.sel b) = true →
    (s.fw.point = .send .dac →
      ∃ t, exec (decodeCmd b) s = .next t ∧ t.out.txWe = true ∧ t.out.txData = s.fw.dacVal ∧
        t.fw.dacVal = s.fw.dacVal ∧ t.fw.adcVal = s.fw.adcVal ∧ t.fw.xferType = b ∧
        (modeOf b ≠ .none → t.fw.stage = .loadAdc ∧ t.fw.point = .pollTx .adcLow ∧ t.fw.count = s.fw.count) ∧
        (modeOf b = .none → Firmware.Counted s.params s.fw t.fw)) ∧
    (s.fw.point = .send .adcLow →
      ∃ t, exec (decodeCmd b) s = .next t ∧ t.out.txWe = true ∧ t.out.txData.toNat = s.fw.adcVal.toNat % 256 ∧
        t.fw.dacVal = s.fw.dacVal ∧ t.fw.adcVal = s.fw.adcVal ∧ t.fw.xferType = b ∧
        (modeOf b = .idxOrCmp → t.fw.stage = s.fw.stage ∧ t.fw.point = .pollTx .adcHigh ∧ t.fw.count = s.fw.count) ∧
        (modeOf b ≠ .idxOrCmp → Firmware.Counted s.params s.fw t.fw)) ∧
    (s.fw.point = .send .adcHigh →
      ∃ t, exec (decodeCmd b) s = .next t ∧ t.out.txWe = true ∧ t.out.txData.toNat = s.fw.adcVal.toNat / 256 ∧
        t.fw.dacVal = s.fw.dacVal ∧ t.fw.adcVal = s.fw.adcVal ∧ t.fw.xferType = b ∧
        Firmware.Counted s.params s.fw t.fw)

/-- R240, R245: the sample that makes the burst complete returns the host to IDLE with its counter at 0, and in its next turn it
polls for a new command byte. That it does so in the tick that sends the last byte is the model's (DESIGN CHOICE, log entry 7). -/
def Obligations.BurstEndsInIdle : Prop :=
  ∀ (b : CmdByte) (s : State), selectorInTable (CmdByte.sel b) = true → s.fw.count + 1 = s.params.burstLen →
    ((s.fw.point = .send .dac ∧ modeOf b = .none) ∨ (s.fw.point = .send .adcLow ∧ modeOf b = .val) ∨
      (s.fw.point = .send .adcHigh ∧ modeOf b = .idxOrCmp)) →
    ∃ t, exec (decodeCmd b) s = .next t ∧ t.fw.stage = .idle ∧ t.fw.count = 0 ∧
      (t.pins.hostTurn = true → decode t.fetchBytes = .ok (.rdUartRxRdy 0))

/-- R200, R232: a tick of the host's work on a command byte, in each of XFER_VAL, the two XFER_IDX_OR_CMP and XFER_NONE,
completes, and is for everything but the host the tick of the bus command the host issues: the block cannot tell who the master
is, and every register of the block moves as that bus command's statement says. -/
def Obligations.HostTickIsItsBusCommand : Prop :=
  ∀ (ign sel : BitVec 3) (s : State) (i : Instr),
    i ∈ [.xferVal ign sel, .xferIdxOrCmp1 ign sel, .xferIdxOrCmp2 ign sel, .xferNone ign sel] →
    selectorInTable sel = true → s.fw.listening = false →
    ∃ t u, exec i s = .next t ∧ exec (decodeBus s.fw.word) s = .next u ∧ t.withFw u.fw = u

/-- R89 (a), U2 (D27): a command byte whose selector is past the five-entry table is refused, in every mode. -/
def Obligations.SelectorPastTheTableIsRefused : Prop :=
  ∀ (b : CmdByte) (s : State), 5 ≤ (CmdByte.sel b).toNat →
    exec (decodeCmd b) s = .refused (.selectorOpen (CmdByte.sel b))

/-- R89 (b), R238: command bytes that differ in the ignored bits, or in which of modes 1 and 2 they name, have one effect but
for the stored byte itself. -/
def Obligations.CommandByteAliases : Prop :=
  ∀ (ign1 ign2 sel : BitVec 3) (s t : State) (b : CmdByte),
    (exec (.xferVal ign1 sel) s = .next t →
      ∃ u, exec (.xferVal ign2 sel) s = .next u ∧
        u.withFw { u.fw with xferType := b } = t.withFw { t.fw with xferType := b }) ∧
    (exec (.xferIdxOrCmp1 ign1 sel) s = .next t →
      ∃ u, exec (.xferIdxOrCmp2 ign2 sel) s = .next u ∧
        u.withFw { u.fw with xferType := b } = t.withFw { t.fw with xferType := b }) ∧
    (exec (.xferNone ign1 sel) s = .next t →
      ∃ u, exec (.xferNone ign2 sel) s = .next u ∧
        u.withFw { u.fw with xferType := b } = t.withFw { t.fw with xferType := b })

/-- R235 to R239, R62: one sample on the wire, with the transmitter always ready and the host never delayed: the DAC byte, then
no, one or two ADC bytes by mode, the low byte first. -/
def Obligations.OneSampleOnTheWire : Prop :=
  ∀ s : State, s.cfg.Valid → selectorInTable (CmdByte.sel s.fw.xferType) = true → s.fw.point = .pollTx .dac →
    s.InputsSatisfy (2 * (1 + (modeOf s.fw.xferType).adcBytes)) Inputs.HostMaySend →
    sentBytes (2 * (1 + (modeOf s.fw.xferType).adcBytes)) s =
      match modeOf s.fw.xferType with
      | .val => [s.fw.dacVal, s.fw.adcVal.setWidth 8]
      | .idxOrCmp => [s.fw.dacVal, s.fw.adcVal.setWidth 8, (s.fw.adcVal >>> 8).setWidth 8]
      | .none => [s.fw.dacVal]

/-- R242 (derived there), R245: from the acceptance of a command byte to the end of its burst, under any schedule of the host
and any other inputs, the bytes on the wire when the host listens again are `BURST_LEN · (1 + n)`. Before that they are those of
the counted samples and of the sample in progress, by the tick in which the model's host counts (DESIGN CHOICE, log entry 7).
The schedule is that of the host turns (DESIGN CHOICE, log entry 6). -/
def Obligations.BurstByteCount : Prop :=
  ∀ (n : Nat) (s t : State), s.fw.stage = .idle → s.fw.point = .pollSample → s.fw.count = 0 →
    s.InputsSatisfy n Inputs.HostOnly →
    (∀ k u, k < n → s.run k = .next u → u.fw.listening = false) → s.run n = .next t →
    (t.fw.listening = true →
      (sentBytes n s).length = s.params.burstLen * (1 + (modeOf s.fw.xferType).adcBytes)) ∧
    (t.fw.listening = false →
      (sentBytes n s).length =
        t.fw.count * (1 + (modeOf s.fw.xferType).adcBytes) + t.fw.point.sentOfSample)

/-! ## Configurations -/

/-- The verdicts of T10 on configurations (R118, R263): the reference, toy and c600 records are valid, and each refused record
fails in one item. A `lut_width` of 17 leaves no `conv_precision` (R109), so in the spec's integers that record fails in item (e)
as well, and its reason is T10's, by the order of log entry 13 (DESIGN CHOICE). Then the verdicts on physical parameters, under
every rounding that D24 admits: `Vref = Vdd` of T10, a threshold read back above `Vdd` (R111, R263), and `Hz = 0`, whose reason
is DEDUCED (log entry 13). -/
def Obligations.ConfigurationVerdicts : Prop :=
  (Cfg.reference.check = none ∧ Cfg.toy.check = none ∧ (Cfg.derive 8 9 600 10 true referenceTable).check = none) ∧
  ((Cfg.derive 8 9 512 10 false referenceTable).check = some .indexRange ∧
    (Cfg.derive 8 9 513 10 false referenceTable).check = some .indexRange ∧
    (Cfg.derive 8 9 255 10 false referenceTable).check = some .shift ∧
    (Cfg.derive 8 17 (2 ^ 17 - 1) 10 false (List.replicate (2 ^ 17) 0)).check = some .width ∧
    (Cfg.derive 2 2 5 3 false [0, 1, 2, 3]).check = some .indexRange ∧
    (Cfg.derive 2 2 6 0 false [0, 1, 2, 3]).check = some .count ∧
    ({ Cfg.reference with table := Cfg.reference.table.take 256 } : Cfg).check = some .table) ∧
  (∀ round, NearestRounding round →
    Primary.reference.check 8 round = none ∧
    ({ Primary.reference with vref := Primary.reference.vdd } : Primary).check 8 round = some .domain ∧
    ({ Primary.reference with thresh := 4 } : Primary).check 8 round = some .domain ∧
    ({ Primary.reference with hz := 0 } : Primary).check 8 round = some .count)

/-- R116 (a), (c), (d): a table that the formulas R100 to R115 give is monotone and clamped, under every rounding that D24
admits; and parameters, roundings, `res` and `lut_width` determine the whole configuration but for `raw_mode`, so that building it
twice gives the same table. The formulas are over the reals (log entry 18) and the parameters rational (log entry 22). -/
def Obligations.BuiltTableIsMonotoneAndUnique : Prop :=
  ∀ (c : Cfg) (p : Primary) (round : Rat → Int) (idxRound : ℝ → ℤ), c.BuiltFrom p round idxRound →
    (c.tableMonotone = true ∧ c.tableClamped = true) ∧
    (∀ i e e', c.table[i]? = some e → c.table[i + 1]? = some e' → e ≤ e' ∧ e' ≤ 2 ^ c.res - 1) ∧
    ∀ c' : Cfg, c'.BuiltFrom p round idxRound → c'.res = c.res → c'.lutWidth = c.lutWidth →
      { c' with rawMode := c.rawMode } = c

/-- V1, V2, R106 to R116: the reference configuration, its counts 740 and 6404, its derived integers and all 512 entries of its
table, is the one that the formulas give for the reference parameters, under every rounding that D24 admits; and the table passes
the tests of R116: monotone, the exact low-end stretch, clamped. The formulas are over the reals (log entry 18). -/
def Obligations.ReferenceConfigurationIsTheFormulas : Prop :=
  Primary.reference.IsMaxCnt 740 ∧ Primary.reference.IsDischargeCnt 6404 ∧
    Cfg.derive 8 9 740 6404 false referenceTable = Cfg.reference ∧
    (∀ (round : Rat → Int) (idxRound : ℝ → ℤ), NearestRounding round → IndexRounding idxRound →
      Cfg.reference.BuiltFrom Primary.reference round idxRound ∧
      Cfg.reference.LowEndStretched Primary.reference round idxRound) ∧
    Cfg.reference.tableMonotone = true ∧ Cfg.reference.tableClamped = true
end

