-- ==== Sys2Proof/Laws/State.lean ====
section
/-! SUPPORT. One lemma per field per update, each true by rfl, so that no later proof unfolds a record update. -/

namespace Sys2Proof.Machine

/-! ## The tick -/

@[simp] theorem State.tick_cfg (s : State) (b : BusEffect) :
    (s.tick b).cfg = s.cfg := rfl

@[simp] theorem State.tick_params (s : State) (b : BusEffect) :
    (s.tick b).params = s.params := rfl

@[simp] theorem State.tick_fw (s : State) (b : BusEffect) :
    (s.tick b).fw = s.fw := rfl

@[simp] theorem State.tick_pins (s : State) (b : BusEffect) :
    (s.tick b).pins = s.nextPins := rfl

@[simp] theorem State.tick_stim (s : State) (b : BusEffect) :
    (s.tick b).stim = s.stim.tail := rfl

@[simp] theorem State.tick_draws (s : State) (b : BusEffect) :
    (s.tick b).draws = s.draws + 1 := rfl

@[simp] theorem State.tick_out (s : State) (b : BusEffect) :
    (s.tick b).out = outputsOf s.cfg s.engine b := rfl

@[simp] theorem State.tick_engine (s : State) (b : BusEffect) :
    (s.tick b).engine = if s.pins.rst then Engine.reset else s.engine.tick s.cfg s.pins := rfl

@[simp] theorem State.tick_status (s : State) (b : BusEffect) :
    (s.tick b).status = if s.pins.rst then Status.reset else s.status.tick s.cfg s.engine s.pins.dacIn b.clearRdy := rfl

/-! ## Another host state -/

@[simp] theorem State.withFw_cfg (s : State) (fw : Firmware) :
    (s.withFw fw).cfg = s.cfg := rfl

@[simp] theorem State.withFw_params (s : State) (fw : Firmware) :
    (s.withFw fw).params = s.params := rfl

@[simp] theorem State.withFw_engine (s : State) (fw : Firmware) :
    (s.withFw fw).engine = s.engine := rfl

@[simp] theorem State.withFw_status (s : State) (fw : Firmware) :
    (s.withFw fw).status = s.status := rfl

@[simp] theorem State.withFw_pins (s : State) (fw : Firmware) :
    (s.withFw fw).pins = s.pins := rfl

@[simp] theorem State.withFw_out (s : State) (fw : Firmware) :
    (s.withFw fw).out = s.out := rfl

@[simp] theorem State.withFw_stim (s : State) (fw : Firmware) :
    (s.withFw fw).stim = s.stim := rfl

@[simp] theorem State.withFw_draws (s : State) (fw : Firmware) :
    (s.withFw fw).draws = s.draws := rfl

@[simp] theorem State.withFw_fw (s : State) (fw : Firmware) :
    (s.withFw fw).fw = fw := rfl

@[simp] theorem State.withFw_withFw (s : State) (fw fw2 : Firmware) : (s.withFw fw).withFw fw2 = s.withFw fw2 := rfl

@[simp] theorem State.withFw_self (s : State) : s.withFw s.fw = s := rfl

/-! ## Outputs -/

@[simp] theorem outputsOf_charge (c : Cfg) (e : Engine) (b : BusEffect) :
    (outputsOf c e b).charge = e.chargeOut := rfl

@[simp] theorem outputsOf_done (c : Cfg) (e : Engine) (b : BusEffect) :
    (outputsOf c e b).done = e.doneOut c := rfl

@[simp] theorem outputsOf_avail (c : Cfg) (e : Engine) (b : BusEffect) :
    (outputsOf c e b).avail = e.avail := rfl

@[simp] theorem outputsOf_val (c : Cfg) (e : Engine) (b : BusEffect) :
    (outputsOf c e b).val = e.valOut c := rfl

@[simp] theorem outputsOf_rdata (c : Cfg) (e : Engine) (b : BusEffect) :
    (outputsOf c e b).rdata = b.rdata := rfl

@[simp] theorem outputsOf_txData (c : Cfg) (e : Engine) (b : BusEffect) :
    (outputsOf c e b).txData = b.txData := rfl

@[simp] theorem outputsOf_txWe (c : Cfg) (e : Engine) (b : BusEffect) :
    (outputsOf c e b).txWe = b.txWe := rfl

@[simp] theorem outputsOf_serRd (c : Cfg) (e : Engine) (b : BusEffect) :
    (outputsOf c e b).serRd = b.serRd := rfl

/-! ## Engine updates -/

@[simp] theorem Engine.shift_phase (e : Engine) (sense : Bool) :
    (e.shift sense).phase = e.phase := rfl

@[simp] theorem Engine.shift_upCnt (e : Engine) (sense : Bool) :
    (e.shift sense).upCnt = e.upCnt := rfl

@[simp] theorem Engine.shift_downCnt (e : Engine) (sense : Bool) :
    (e.shift sense).downCnt = e.downCnt := rfl

@[simp] theorem Engine.shift_sync0 (e : Engine) (sense : Bool) :
    (e.shift sense).sync0 = sense := rfl

@[simp] theorem Engine.shift_sync1 (e : Engine) (sense : Bool) :
    (e.shift sense).sync1 = e.sync0 := rfl

@[simp] theorem Engine.shift_zeroRun (e : Engine) (sense : Bool) :
    (e.shift sense).zeroRun = e.zeroRun := rfl

@[simp] theorem Engine.shift_latched (e : Engine) (sense : Bool) :
    (e.shift sense).latched = e.latched := rfl

@[simp] theorem Engine.shift_avail (e : Engine) (sense : Bool) :
    (e.shift sense).avail = e.avail := rfl

@[simp] theorem Engine.shift_rawIndex (e : Engine) (sense : Bool) :
    (e.shift sense).rawIndex = e.rawIndex := rfl

@[simp] theorem Engine.shift_rawCnt (e : Engine) (sense : Bool) :
    (e.shift sense).rawCnt = e.rawCnt := rfl

@[simp] theorem Engine.latch_phase (e : Engine) (index count : Nat) :
    (e.latch index count).phase = e.phase := rfl

@[simp] theorem Engine.latch_upCnt (e : Engine) (index count : Nat) :
    (e.latch index count).upCnt = e.upCnt := rfl

@[simp] theorem Engine.latch_downCnt (e : Engine) (index count : Nat) :
    (e.latch index count).downCnt = e.downCnt := rfl

@[simp] theorem Engine.latch_sync0 (e : Engine) (index count : Nat) :
    (e.latch index count).sync0 = e.sync0 := rfl

@[simp] theorem Engine.latch_sync1 (e : Engine) (index count : Nat) :
    (e.latch index count).sync1 = e.sync1 := rfl

@[simp] theorem Engine.latch_zeroRun (e : Engine) (index count : Nat) :
    (e.latch index count).zeroRun = e.zeroRun := rfl

@[simp] theorem Engine.latch_latched (e : Engine) (index count : Nat) :
    (e.latch index count).latched = true := rfl

@[simp] theorem Engine.latch_avail (e : Engine) (index count : Nat) :
    (e.latch index count).avail = true := rfl

@[simp] theorem Engine.latch_rawIndex (e : Engine) (index count : Nat) :
    (e.latch index count).rawIndex = index := rfl

@[simp] theorem Engine.latch_rawCnt (e : Engine) (index count : Nat) :
    (e.latch index count).rawCnt = count := rfl

/-! ## Capture -/

@[simp] theorem Engine.capture_sampleRdy (c : Cfg) (e : Engine) (dacIn : Byte) :
    (e.capture c dacIn).sampleRdy = true := rfl

@[simp] theorem Engine.capture_dacValCopy (c : Cfg) (e : Engine) (dacIn : Byte) :
    (e.capture c dacIn).dacValCopy = dacIn := rfl

@[simp] theorem Engine.capture_adcValCopy (c : Cfg) (e : Engine) (dacIn : Byte) :
    (e.capture c dacIn).adcValCopy = e.valOut c := rfl

@[simp] theorem Engine.capture_adcIdxCopy (c : Cfg) (e : Engine) (dacIn : Byte) :
    (e.capture c dacIn).adcIdxCopy = e.rawIndex := rfl

@[simp] theorem Engine.capture_adcCntCopy (c : Cfg) (e : Engine) (dacIn : Byte) :
    (e.capture c dacIn).adcCntCopy = e.rawCnt := rfl

/-! ## Bus effects -/

@[simp] theorem State.idleEffect_rdata (s : State) :
    (s.idleEffect).rdata = Config.idleRdata s.draws := rfl

@[simp] theorem State.idleEffect_txData (s : State) :
    (s.idleEffect).txData = Config.idleTxData s.draws := rfl

@[simp] theorem State.idleEffect_txWe (s : State) :
    (s.idleEffect).txWe = false := rfl

@[simp] theorem State.idleEffect_serRd (s : State) :
    (s.idleEffect).serRd = 0 := rfl

@[simp] theorem State.idleEffect_clearRdy (s : State) :
    (s.idleEffect).clearRdy = false := rfl

@[simp] theorem State.readEffect_rdata (s : State) (v : ReadData) :
    (s.readEffect v).rdata = v := rfl

@[simp] theorem State.readEffect_txData (s : State) (v : ReadData) :
    (s.readEffect v).txData = Config.idleTxData s.draws := rfl

@[simp] theorem State.readEffect_txWe (s : State) (v : ReadData) :
    (s.readEffect v).txWe = false := rfl

@[simp] theorem State.readEffect_serRd (s : State) (v : ReadData) :
    (s.readEffect v).serRd = 0 := rfl

@[simp] theorem State.readEffect_clearRdy (s : State) (v : ReadData) :
    (s.readEffect v).clearRdy = false := rfl

@[simp] theorem State.serialReadEffect_rdata (s : State) (a : Nat) (v : ReadData) :
    (s.serialReadEffect a v).rdata = v := rfl

@[simp] theorem State.serialReadEffect_txData (s : State) (a : Nat) (v : ReadData) :
    (s.serialReadEffect a v).txData = Config.idleTxData s.draws := rfl

@[simp] theorem State.serialReadEffect_txWe (s : State) (a : Nat) (v : ReadData) :
    (s.serialReadEffect a v).txWe = false := rfl

@[simp] theorem State.serialReadEffect_serRd (s : State) (a : Nat) (v : ReadData) :
    (s.serialReadEffect a v).serRd = BitVec.twoPow 3 a := rfl

@[simp] theorem State.serialReadEffect_clearRdy (s : State) (a : Nat) (v : ReadData) :
    (s.serialReadEffect a v).clearRdy = false := rfl

@[simp] theorem State.clearingReadEffect_rdata (s : State) :
    (s.clearingReadEffect).rdata = zextBit s.status.sampleRdy := rfl

@[simp] theorem State.clearingReadEffect_txData (s : State) :
    (s.clearingReadEffect).txData = Config.idleTxData s.draws := rfl

@[simp] theorem State.clearingReadEffect_txWe (s : State) :
    (s.clearingReadEffect).txWe = false := rfl

@[simp] theorem State.clearingReadEffect_serRd (s : State) :
    (s.clearingReadEffect).serRd = 0 := rfl

@[simp] theorem State.clearingReadEffect_clearRdy (s : State) :
    (s.clearingReadEffect).clearRdy = true := rfl

@[simp] theorem State.transmitEffect_rdata (s : State) (v : Byte) :
    (s.transmitEffect v).rdata = Config.idleRdata s.draws := rfl

@[simp] theorem State.transmitEffect_txData (s : State) (v : Byte) :
    (s.transmitEffect v).txData = v := rfl

@[simp] theorem State.transmitEffect_txWe (s : State) (v : Byte) :
    (s.transmitEffect v).txWe = true := rfl

@[simp] theorem State.transmitEffect_serRd (s : State) (v : Byte) :
    (s.transmitEffect v).serRd = 0 := rfl

@[simp] theorem State.transmitEffect_clearRdy (s : State) (v : Byte) :
    (s.transmitEffect v).clearRdy = false := rfl

@[simp] theorem State.reservedReadEffect_rdata (s : State) :
    (s.reservedReadEffect).rdata = Config.reservedRead s.draws := rfl

@[simp] theorem State.reservedReadEffect_txData (s : State) :
    (s.reservedReadEffect).txData = Config.idleTxData s.draws := rfl

@[simp] theorem State.reservedReadEffect_txWe (s : State) :
    (s.reservedReadEffect).txWe = false := rfl

@[simp] theorem State.reservedReadEffect_serRd (s : State) :
    (s.reservedReadEffect).serRd = 0 := rfl

@[simp] theorem State.reservedReadEffect_clearRdy (s : State) :
    (s.reservedReadEffect).clearRdy = false := rfl

/-! ## The host -/

@[simp] theorem Firmware.accept_stage (fw : Firmware) (b : CmdByte) :
    (fw.accept b).stage = .idle := rfl

@[simp] theorem Firmware.accept_point (fw : Firmware) (b : CmdByte) :
    (fw.accept b).point = .pollSample := rfl

@[simp] theorem Firmware.accept_xferType (fw : Firmware) (b : CmdByte) :
    (fw.accept b).xferType = b := rfl

@[simp] theorem Firmware.accept_count (fw : Firmware) (b : CmdByte) :
    (fw.accept b).count = fw.count := rfl

@[simp] theorem Firmware.accept_dacVal (fw : Firmware) (b : CmdByte) :
    (fw.accept b).dacVal = fw.dacVal := rfl

@[simp] theorem Firmware.accept_adcVal (fw : Firmware) (b : CmdByte) :
    (fw.accept b).adcVal = fw.adcVal := rfl

@[simp] theorem Firmware.startSample_stage (fw : Firmware) :
    fw.startSample.stage = .loadDac := rfl

@[simp] theorem Firmware.startSample_point (fw : Firmware) :
    fw.startSample.point = .pollTx .dac := rfl

@[simp] theorem Firmware.startSample_xferType (fw : Firmware) :
    fw.startSample.xferType = fw.xferType := rfl

@[simp] theorem Firmware.startSample_count (fw : Firmware) :
    fw.startSample.count = fw.count := rfl

@[simp] theorem Firmware.startSample_dacVal (fw : Firmware) :
    fw.startSample.dacVal = fw.dacVal := rfl

@[simp] theorem Firmware.startSample_adcVal (fw : Firmware) :
    fw.startSample.adcVal = fw.adcVal := rfl

/-! ## The pins -/

@[simp] theorem inputs_withWord_rst (i : Inputs) (w : BusWord) :
    (i.withWord w).rst = i.rst := rfl

@[simp] theorem inputs_withWord_sense (i : Inputs) (w : BusWord) :
    (i.withWord w).sense = i.sense := rfl

@[simp] theorem inputs_withWord_start (i : Inputs) (w : BusWord) :
    (i.withWord w).start = i.start := rfl

@[simp] theorem inputs_withWord_dacIn (i : Inputs) (w : BusWord) :
    (i.withWord w).dacIn = i.dacIn := rfl

@[simp] theorem inputs_withWord_rxRdy (i : Inputs) (w : BusWord) :
    (i.withWord w).rxRdy = i.rxRdy := rfl

@[simp] theorem inputs_withWord_rxData (i : Inputs) (w : BusWord) :
    (i.withWord w).rxData = i.rxData := rfl

@[simp] theorem inputs_withWord_txAck (i : Inputs) (w : BusWord) :
    (i.withWord w).txAck = i.txAck := rfl

@[simp] theorem inputs_withWord_hostTurn (i : Inputs) (w : BusWord) :
    (i.withWord w).hostTurn = false := rfl

end Sys2Proof.Machine
end

