-- ==== Sys2Proof/Laws/Ops.lean ====
section
/-! SUPPORT. What each shared operation can do, said once: later proofs cite these and do not unfold the operation. -/

namespace Sys2Proof.Machine

/-! ## Flags -/

theorem Engine.doneOut_iff (c : Cfg) (e : Engine) :
    e.doneOut c = true ↔ e.phase = .discharging ∧ e.downCnt = c.dischargeCnt := by simp [Engine.doneOut]

theorem Engine.timeout_iff (c : Cfg) (e : Engine) :
    e.timeout c = true ↔ e.phase = .charging ∧ e.upCnt = c.maxCnt := by simp [Engine.timeout]

theorem Engine.hit_iff (e : Engine) :
    e.hit = true ↔ e.phase = .charging ∧ e.sync1 = false ∧ e.zeroRun = 1 ∧ e.latched = false := by
  simp [Engine.hit, Engine.cmp, and_assoc]

theorem Engine.neverTrip_iff (c : Cfg) (e : Engine) :
    e.neverTrip c = true ↔ e.timeout c = true ∧ e.latched = false ∧ e.hit = false := by
  simp [Engine.neverTrip, and_assoc]

theorem Engine.strobe_iff (c : Cfg) (e : Engine) :
    e.strobe c = true ↔ e.phase = .discharging ∧ e.downCnt = c.dischargeCnt ∧ e.avail = true := by
  simp [Engine.strobe, Engine.doneOut, and_assoc]

/-! ## The engine's step, case by case -/

/-- The engine's tick in each of its cases: counting down, ending a discharge, counting up, ending a window. -/
theorem Engine.tick_cases (c : Cfg) (e : Engine) (i : Inputs) :
    (e.phase = .discharging ∧ e.downCnt ≠ c.dischargeCnt ∧
      e.tick c i = { e.shift i.sense with downCnt := e.downCnt + 1 }) ∨
    (e.phase = .discharging ∧ e.downCnt = c.dischargeCnt ∧ i.start = false ∧
      e.tick c i = { e.shift i.sense with downCnt := 0, latched := false }) ∨
    (e.phase = .discharging ∧ e.downCnt = c.dischargeCnt ∧ i.start = true ∧
      e.tick c i = { e.shift i.sense with downCnt := 0, latched := false, phase := .charging, avail := false }) ∨
    (e.phase = .charging ∧ e.upCnt ≠ c.maxCnt ∧ e.hit = false ∧
      e.tick c i = { e.shift i.sense with zeroRun := e.nextRun, upCnt := e.upCnt + 1 }) ∨
    (e.phase = .charging ∧ e.upCnt ≠ c.maxCnt ∧ e.hit = true ∧
      e.tick c i = { (e.shift i.sense).latch (conv c e.upCnt) e.upCnt with zeroRun := e.nextRun, upCnt := e.upCnt + 1 }) ∨
    (e.phase = .charging ∧ e.upCnt = c.maxCnt ∧ e.hit = true ∧
      e.tick c i = { (e.shift i.sense).latch (conv c e.upCnt) e.upCnt with
        zeroRun := 0, upCnt := 0, phase := .discharging }) ∨
    (e.phase = .charging ∧ e.upCnt = c.maxCnt ∧ e.hit = false ∧ e.latched = true ∧
      e.tick c i = { e.shift i.sense with zeroRun := 0, upCnt := 0, phase := .discharging }) ∨
    (e.phase = .charging ∧ e.upCnt = c.maxCnt ∧ e.hit = false ∧ e.latched = false ∧
      e.tick c i = { (e.shift i.sense).latch (saturatedIndex c) c.maxCnt with
        zeroRun := 0, upCnt := 0, phase := .discharging }) := by
  cases hp : e.phase with
  | discharging =>
    by_cases hd : e.downCnt = c.dischargeCnt <;> cases hs : i.start <;>
      simp [Engine.tick, hp, Engine.dischargeTick, hd, hs]
  | charging =>
    by_cases hu : e.upCnt = c.maxCnt <;> cases hh : e.hit <;> cases hl : e.latched <;>
      simp [Engine.tick, hp, Engine.chargeTick, hu, hh, hl, Engine.latch]

/-! ## The status block's step -/

theorem Status.tick_strobe (c : Cfg) (e : Engine) (st : Status) (d : Byte) (r : Bool) (h : e.strobe c = true) :
    st.tick c e d r = e.capture c d := by simp [Status.tick, h]

theorem Status.tick_clear (c : Cfg) (e : Engine) (st : Status) (d : Byte) (h : e.strobe c = false) :
    st.tick c e d true = { st with sampleRdy := false } := by simp [Status.tick, h]

theorem Status.tick_idle (c : Cfg) (e : Engine) (st : Status) (d : Byte) (h : e.strobe c = false) :
    st.tick c e d false = st := by simp [Status.tick, h]

/-! ## The pins -/

theorem State.nextPins_cons (s : State) (i : Inputs) (l : List Inputs) (h : s.stim = i :: l) : s.nextPins = i := by
  simp [State.nextPins, h]

/-! ## The host -/

/-- A host command either is refused for its selector or takes one tick under the host's own bus command. -/
theorem hostCommand_cases (m : XferMode) (b : CmdByte) (sel : BitVec 3) (s : State) :
    (waitValue sel = none ∧ hostCommand m b sel s = .refused (.selectorOpen sel)) ∨
    ∃ wait, waitValue sel = some wait ∧
      hostCommand m b sel s = .next ((s.tick (s.busEffect (s.fw.load b).word)).withFw
        ((s.fw.load b).advance s.params m sel wait (s.busEffect (s.fw.load b).word).rdata)) := by
  unfold hostCommand
  cases waitValue sel <;> simp

/-- The selectors that name a table entry are 0 to 4. -/
theorem waitValue_isSome (sel : BitVec 3) : (waitValue sel).isSome = selectorInTable sel := by
  revert sel; decide

/-! ## Configurations -/

/-- The physical parameters that pass the construction's checks. -/
theorem primary_check_eq_none_iff (p : Primary) (res : Nat) (round : Rat → Int) :
    p.check res round = none ↔
      (0 < p.r ∧ 0 < p.c ∧ 0 < p.vref) ∧ (p.vref < p.vdd ∧ p.threshVoltage res round < p.vdd) ∧ 0 < p.hz := by
  unfold Primary.check
  split
  · simp; grind
  split
  · simp; grind
  split
  · simp; grind
  · simp; grind

/-- Construction gives the record itself, exactly if no item fails. -/
theorem construct_eq_ok_iff (p : Primary) (round : Rat → Int) (c d : Cfg) :
    construct p round c = .ok d ↔ p.check c.res round = none ∧ c.Valid ∧ c = d := by
  unfold construct Cfg.Valid
  cases p.check c.res round <;> cases c.check <;> simp

/-- R116 (a) for every two neighbouring entries. -/
theorem tableMonotone_iff (c : Cfg) :
    c.tableMonotone = true ↔ ∀ i e e' : Nat, c.table[i]? = some e → c.table[i + 1]? = some e' → e ≤ e' := by
  unfold Cfg.tableMonotone
  rw [List.all_eq_true]
  constructor
  · intro h i e e' h1 h2
    have hm : (e, e') ∈ c.table.zip c.table.tail :=
      List.mem_iff_getElem?.2 ⟨i, by simp [List.getElem?_zip_eq_some, h1, h2]⟩
    simpa using h _ hm
  · rintro h ⟨e, e'⟩ hm
    obtain ⟨i, hi⟩ := List.mem_iff_getElem?.1 hm
    rw [List.getElem?_zip_eq_some, List.getElem?_tail] at hi
    simpa using h i e e' hi.1 hi.2

/-- R116 (c) for every entry. -/
theorem tableClamped_iff (c : Cfg) :
    c.tableClamped = true ↔ ∀ i e : Nat, c.table[i]? = some e → e ≤ 2 ^ c.res - 1 := by
  unfold Cfg.tableClamped
  rw [List.all_eq_true]
  constructor
  · intro h i e hi
    simpa using h e (List.mem_iff_getElem?.2 ⟨i, hi⟩)
  · intro h e he
    obtain ⟨i, hi⟩ := List.mem_iff_getElem?.1 he
    simpa using h i e hi

/-- A valid configuration satisfies each item of R118 (b) to (g). -/
theorem cfg_valid_iff (c : Cfg) :
    c.Valid ↔ (1 ≤ c.res ∧ 1 ≤ c.lutWidth ∧ c.lutWidth ≤ 16) ∧ (1 ≤ c.maxCnt ∧ 1 ≤ c.dischargeCnt) ∧
      c.lutWidth ≤ bitLength c.maxCnt ∧ c.consistent = true ∧ c.shiftedMax ≠ 2 ^ (c.lutWidth - 1) ∧
      c.tableFits = true := by
  unfold Cfg.Valid Cfg.check
  split
  · simp; omega
  split
  · simp; omega
  split
  · simp; omega
  split
  · simp_all
  split
  · simp_all
  split
  · simp_all
  · rename_i h1 h2 h3 h4 h5 h6
    simp only [not_or, not_lt, Bool.not_eq_false] at h1 h2 h3 h4 h6
    simp only [true_iff]
    exact ⟨⟨h1.1, h1.2.1, h1.2.2⟩, h2, h3, h4, h5, h6⟩

end Sys2Proof.Machine
end

