-- ==== Sys2Proof/Laws/Exec.lean ====
section
/-! SUPPORT. What an operation and a step can do, said once for all of them. -/

namespace Sys2Proof.Machine

/-- Every operation that answers a next state is one tick of the block under some bus effect, with some host state. -/
theorem exec_next_is_tick (i : Instr) (s t : State) (h : exec i s = .next t) :
    ∃ b fw, t = (s.tick b).withFw fw := by
  cases i
  case xferVal ign sel | xferIdxOrCmp1 ign sel | xferIdxOrCmp2 ign sel | xferNone ign sel =>
    rcases hostCommand_cases _ _ sel s with ⟨-, h'⟩ | ⟨w, -, h'⟩
    · exact absurd (h'.symm.trans h) (by simp)
    · exact ⟨_, _, by simpa using (h'.symm.trans h).symm⟩
  all_goals exact ⟨_, _, (Host.Outcome.next.inj h).symm⟩

/-- A well-formed operation completes on every state, in one tick of the block. -/
theorem exec_wellFormed (i : Instr) (s : State) (h : WellFormed i = true) :
    ∃ b fw, exec i s = .next ((s.tick b).withFw fw) := by
  cases i
  case xferVal ign sel | xferIdxOrCmp1 ign sel | xferIdxOrCmp2 ign sel | xferNone ign sel =>
    rcases hostCommand_cases _ _ sel s with ⟨hn, -⟩ | ⟨w, -, h'⟩
    · have := waitValue_isSome sel
      rw [hn] at this
      exact absurd (this.trans h) (by simp)
    · exact ⟨_, _, h'⟩
  all_goals exact ⟨_, _, rfl⟩

/-- A step on a valid configuration is the decoded operation. -/
theorem step_valid (s : State) (i : Instr) (hc : s.cfg.Valid) (hd : decode s.fetchBytes = .ok i) : step s = exec i s := by
  unfold step
  rw [show s.cfg.check = none from hc, hd]

/-- A step that answers a next state ran an operation on a valid configuration. -/
theorem step_next (s t : State) (h : step s = .next t) :
    s.cfg.Valid ∧ ∃ i, decode s.fetchBytes = .ok i ∧ exec i s = .next t := by
  unfold step at h
  split at h
  · cases h
  · rename_i hc
    refine ⟨hc, ?_⟩
    split at h
    · exact ⟨_, ‹_›, h⟩
    · cases h

end Sys2Proof.Machine
end

