-- ==== Sys2Proof/Laws/PerInstr.lean ====
section
/-! SUPPORT. The per-instruction family: the encoding of an operation has its format's length (R90: no compressed, prefixed or
variable-length form). -/

namespace Sys2Proof.Laws

/-- The encoding has as many bytes as the operation's format. -/
def EncodedLength.Statement (i : Instr) : Prop := (encode i).length = i.format.bytes

theorem EncodedLength.nop (we : Bool) (addr : RegAddr) (wdata : Byte) : EncodedLength.Statement (.nop we addr wdata) := rfl

theorem EncodedLength.rdUartRxRdy (wdata : Byte) : EncodedLength.Statement (.rdUartRxRdy wdata) := rfl

theorem EncodedLength.rdUartRxData (wdata : Byte) : EncodedLength.Statement (.rdUartRxData wdata) := rfl

theorem EncodedLength.rdUartTxAck (wdata : Byte) : EncodedLength.Statement (.rdUartTxAck wdata) := rfl

theorem EncodedLength.rdReserved3 (wdata : Byte) : EncodedLength.Statement (.rdReserved3 wdata) := rfl

theorem EncodedLength.rdSampleRdy (wdata : Byte) : EncodedLength.Statement (.rdSampleRdy wdata) := rfl

theorem EncodedLength.rdDacValCopy (wdata : Byte) : EncodedLength.Statement (.rdDacValCopy wdata) := rfl

theorem EncodedLength.rdAdcValCopy (wdata : Byte) : EncodedLength.Statement (.rdAdcValCopy wdata) := rfl

theorem EncodedLength.rdAdcIdxCopy (wdata : Byte) : EncodedLength.Statement (.rdAdcIdxCopy wdata) := rfl

theorem EncodedLength.rdAdcCntCopy (wdata : Byte) : EncodedLength.Statement (.rdAdcCntCopy wdata) := rfl

theorem EncodedLength.rdReserved9 (wdata : Byte) : EncodedLength.Statement (.rdReserved9 wdata) := rfl

theorem EncodedLength.rdReserved10 (wdata : Byte) : EncodedLength.Statement (.rdReserved10 wdata) := rfl

theorem EncodedLength.rdReserved11 (wdata : Byte) : EncodedLength.Statement (.rdReserved11 wdata) := rfl

theorem EncodedLength.rdReserved12 (wdata : Byte) : EncodedLength.Statement (.rdReserved12 wdata) := rfl

theorem EncodedLength.rdReserved13 (wdata : Byte) : EncodedLength.Statement (.rdReserved13 wdata) := rfl

theorem EncodedLength.rdReserved14 (wdata : Byte) : EncodedLength.Statement (.rdReserved14 wdata) := rfl

theorem EncodedLength.rdReserved15 (wdata : Byte) : EncodedLength.Statement (.rdReserved15 wdata) := rfl

theorem EncodedLength.wrReserved0 (wdata : Byte) : EncodedLength.Statement (.wrReserved0 wdata) := rfl

theorem EncodedLength.wrReserved1 (wdata : Byte) : EncodedLength.Statement (.wrReserved1 wdata) := rfl

theorem EncodedLength.wrReserved2 (wdata : Byte) : EncodedLength.Statement (.wrReserved2 wdata) := rfl

theorem EncodedLength.wrUartTxData (wdata : Byte) : EncodedLength.Statement (.wrUartTxData wdata) := rfl

theorem EncodedLength.wrReserved4 (wdata : Byte) : EncodedLength.Statement (.wrReserved4 wdata) := rfl

theorem EncodedLength.wrReserved5 (wdata : Byte) : EncodedLength.Statement (.wrReserved5 wdata) := rfl

theorem EncodedLength.wrReserved6 (wdata : Byte) : EncodedLength.Statement (.wrReserved6 wdata) := rfl

theorem EncodedLength.wrReserved7 (wdata : Byte) : EncodedLength.Statement (.wrReserved7 wdata) := rfl

theorem EncodedLength.wrReserved8 (wdata : Byte) : EncodedLength.Statement (.wrReserved8 wdata) := rfl

theorem EncodedLength.wrReserved9 (wdata : Byte) : EncodedLength.Statement (.wrReserved9 wdata) := rfl

theorem EncodedLength.wrReserved10 (wdata : Byte) : EncodedLength.Statement (.wrReserved10 wdata) := rfl

theorem EncodedLength.wrReserved11 (wdata : Byte) : EncodedLength.Statement (.wrReserved11 wdata) := rfl

theorem EncodedLength.wrReserved12 (wdata : Byte) : EncodedLength.Statement (.wrReserved12 wdata) := rfl

theorem EncodedLength.wrReserved13 (wdata : Byte) : EncodedLength.Statement (.wrReserved13 wdata) := rfl

theorem EncodedLength.wrReserved14 (wdata : Byte) : EncodedLength.Statement (.wrReserved14 wdata) := rfl

theorem EncodedLength.wrReserved15 (wdata : Byte) : EncodedLength.Statement (.wrReserved15 wdata) := rfl

theorem EncodedLength.xferVal (ign sel : BitVec 3) : EncodedLength.Statement (.xferVal ign sel) := rfl

theorem EncodedLength.xferIdxOrCmp1 (ign sel : BitVec 3) : EncodedLength.Statement (.xferIdxOrCmp1 ign sel) := rfl

theorem EncodedLength.xferIdxOrCmp2 (ign sel : BitVec 3) : EncodedLength.Statement (.xferIdxOrCmp2 ign sel) := rfl

theorem EncodedLength.xferNone (ign sel : BitVec 3) : EncodedLength.Statement (.xferNone ign sel) := rfl

end Sys2Proof.Laws
end

