-- ==== Sys2Proof/Laws/Words.lean ====
section
/-! SUPPORT. The fields of a word built from its fields, and what the decoder reads from a BUS word's bytes. -/

namespace Sys2Proof

@[simp] theorem BusWord.en_busWord (en we : Bool) (a : RegAddr) (d : Byte) : BusWord.en (busWord en we a d) = en := by
  simp [BusWord.en, busWord]
  iterate 3 (rw [BitVec.getElem_append]; simp)

@[simp] theorem BusWord.we_busWord (en we : Bool) (a : RegAddr) (d : Byte) : BusWord.we (busWord en we a d) = we := by
  simp [BusWord.we, busWord]
  iterate 3 (rw [BitVec.getElem_append]; simp)

@[simp] theorem BusWord.addr_busWord (en we : Bool) (a : RegAddr) (d : Byte) : BusWord.addr (busWord en we a d) = a := by
  ext i hi
  simp [BusWord.addr, busWord]
  grind

@[simp] theorem BusWord.wdata_busWord (en we : Bool) (a : RegAddr) (d : Byte) :
    BusWord.wdata (busWord en we a d) = d := by
  ext i hi
  simp [BusWord.wdata, busWord]
  grind

@[simp] theorem CmdByte.ign_cmdByte (ign sel : BitVec 3) (mode : BitVec 2) :
    CmdByte.ign (cmdByte ign sel mode) = ign := by revert ign sel mode; decide

@[simp] theorem CmdByte.sel_cmdByte (ign sel : BitVec 3) (mode : BitVec 2) :
    CmdByte.sel (cmdByte ign sel mode) = sel := by revert ign sel mode; decide

@[simp] theorem CmdByte.mode_cmdByte (ign sel : BitVec 3) (mode : BitVec 2) :
    CmdByte.mode (cmdByte ign sel mode) = mode := by revert ign sel mode; decide

/-- The two bytes of a BUS word decode to the word's bus command. -/
theorem decode_toBytes (w : BusWord) : decode (BusWord.toBytes w) = .ok (decodeBus w) := by
  unfold BusWord.toBytes decode
  have h : ((BitVec.extractLsb' 8 6 w).setWidth 8 : BitVec 8).toNat < 64 := by
    simp; omega
  simp only [h, if_true]
  congr 2
  ext i hi
  simp
  grind

/-- Every bus command is well-formed: only a command byte has a check. -/
theorem wellFormed_decodeBus (w : BusWord) : WellFormed (decodeBus w) = true := by
  unfold decodeBus decodeWrite decodeRead
  split
  · split <;> split <;> rfl
  · rfl

end Sys2Proof
end

