-- ==== Sys2Proof/Laws/Runs.lean ====
section
/-! SUPPORT. Runs of ticks: what one step can do to the engine and the inputs, the inputs known for a run, and the one
induction over a run's ticks. -/

namespace Sys2Proof.Machine

/-! ## One step -/

/-- Whoever drives the bus, a step is one tick of the engine, uses up one tick's inputs and keeps the constants. -/
theorem step_is_engine_tick (s t : State) (h : step s = .next t) :
    t.engine = (if s.pins.rst then Engine.reset else s.engine.tick s.cfg s.pins) ∧ s.Advanced t := by
  obtain ⟨-, i, -, hx⟩ := step_next s t h
  obtain ⟨b, fw, rfl⟩ := exec_next_is_tick i s t hx
  exact ⟨rfl, rfl, rfl, rfl, rfl, rfl⟩

/-- On a valid configuration a tick whose bus is not the host's completes. -/
theorem step_of_ports (s : State) (hv : s.cfg.Valid) (hp : s.pins.hostTurn = false) : ∃ t, step s = .next t := by
  have hd : decode s.fetchBytes = .ok (decodeBus s.pins.portWord) := by
    simp [State.fetchBytes, State.hostBusy, State.tickWord, hp, decode_toBytes]
  rw [step_valid s _ hv hd]
  obtain ⟨b, fw, h⟩ := exec_wellFormed _ s (wellFormed_decodeBus _)
  exact ⟨_, h⟩

/-! ## Runs -/

@[simp] theorem State.run_zero (s : State) : s.run 0 = .next s := rfl

/-- A run of `n + 1` ticks is a step and a run of `n` ticks. -/
theorem State.run_succ (n : Nat) (s t : State) (h : step s = .next t) : s.run (n + 1) = t.run n := by
  simp only [State.run, Host.Core.run]
  rw [show Host.Core.step core s = step s from rfl, h]

/-- A run of `n + 1` ticks that completes begins with a step that does. -/
theorem State.run_succ_next (n : Nat) (s t : State) (h : s.run (n + 1) = .next t) :
    ∃ u, step s = .next u ∧ u.run n = .next t := by
  simp only [State.run, Host.Core.run] at h
  split at h
  · exact ⟨_, ‹_›, h⟩
  · cases h
  · cases h

/-- A run of `n + 1` ticks that completes ends with a step from the state after `n` ticks. -/
theorem State.run_last (n : Nat) (s t : State) (h : s.run (n + 1) = .next t) :
    ∃ u, s.run n = .next u ∧ step u = .next t := by
  induction n generalizing s with
  | zero =>
    obtain ⟨u, hu, hr⟩ := State.run_succ_next 0 s t h
    cases hr
    exact ⟨s, rfl, hu⟩
  | succ n ih =>
    obtain ⟨u, hu, hr⟩ := State.run_succ_next (n + 1) s t h
    obtain ⟨v, hv, hst⟩ := ih u hr
    exact ⟨v, (State.run_succ n s u hu).trans hv, hst⟩

/-- After `n` ticks the pins are the inputs that stood `n` places down the list. -/
theorem State.run_pins (n : Nat) (s t : State) (i : Inputs) (h : s.run n = .next t)
    (hi : (s.pins :: s.stim)[n]? = some i) : t.pins = i := by
  induction n generalizing s with
  | zero => cases h; simpa using hi
  | succ n ih =>
    obtain ⟨u, hu, hr⟩ := State.run_succ_next n s t h
    obtain ⟨-, -, -, hp, hst, -⟩ := step_is_engine_tick s u hu
    refine ih u hr ?_
    rw [hp, hst]
    cases hs : s.stim with
    | nil => simp [hs] at hi
    | cons a l => simpa [hs, State.nextPins] using hi

/-! ## Known inputs -/

theorem State.InputsSatisfy.head {s : State} {n : Nat} {P : Inputs → Prop} (h : s.InputsSatisfy (n + 1) P) : P s.pins :=
  h.2 _ (by simp)

theorem State.InputsSatisfy.tail {s t : State} {n : Nat} {P : Inputs → Prop} (h : s.InputsSatisfy (n + 1) P)
    (ht : s.Advanced t) : t.InputsSatisfy n P := by
  obtain ⟨h1, h2⟩ := h
  obtain ⟨-, -, hp, hs, -⟩ := ht
  refine ⟨by rw [hs, List.length_tail]; omega, ?_⟩
  cases n with
  | zero => simp
  | succ n =>
    cases hst : s.stim with
    | nil => simp [hst] at h1
    | cons a l =>
      intro i hi
      rw [hp, hs, State.nextPins_cons s a l hst, hst] at hi
      exact h2 i (by rw [hst]; exact List.mem_cons_of_mem _ hi)

theorem State.InputsSatisfy.mono {s : State} {n m : Nat} {P : Inputs → Prop} (h : s.InputsSatisfy m P) (hn : n ≤ m) :
    s.InputsSatisfy n P :=
  ⟨hn.trans h.1, fun i hi => h.2 i (List.take_subset_take_left _ hn hi)⟩

theorem State.InputsSatisfy.imp {s : State} {n : Nat} {P Q : Inputs → Prop} (h : s.InputsSatisfy n P)
    (hq : ∀ i, P i → Q i) : s.InputsSatisfy n Q := ⟨h.1, fun i hi => hq i (h.2 i hi)⟩

/-! ## The induction -/

/-- A run whose ticks are all on the ports completes on a valid configuration. -/
theorem State.run_of_ports (n : Nat) (s : State) (hv : s.cfg.Valid) (hs : s.InputsSatisfy n Inputs.Plain) :
    ∃ t, s.run n = .next t := by
  induction n generalizing s with
  | zero => exact ⟨s, rfl⟩
  | succ n ih =>
    obtain ⟨u, hu⟩ := step_of_ports s hv hs.head.2
    have ha := (step_is_engine_tick s u hu).2
    obtain ⟨t, ht⟩ := ih u (ha.1 ▸ hv) (hs.tail ha)
    exact ⟨t, (State.run_succ n s u hu).trans ht⟩

/-- What the engine's tick carries from count `k` to count `k + 1` under inputs without reset, a run carries from count `k0`
to count `k0 + n`, whoever drives the bus. -/
theorem State.afterRun_engine (P : Inputs → Prop) (hP : ∀ i, P i → Inputs.NoReset i) (f : Nat → Engine → Prop)
    (n k0 : Nat) (s : State) (hs : s.InputsSatisfy n P)
    (hf : ∀ k e i, k0 ≤ k → k < k0 + n → f k e → P i → f (k + 1) (e.tick s.cfg i)) (h0 : f k0 s.engine) :
    s.AfterRun n fun t => t.cfg = s.cfg ∧ f (k0 + n) t.engine := by
  refine ⟨fun t ht => ?_, State.run_of_ports n s⟩
  induction n generalizing s k0 with
  | zero => cases ht; exact ⟨rfl, h0⟩
  | succ n ih =>
    obtain ⟨u, hu, hr⟩ := State.run_succ_next n s t ht
    obtain ⟨he, ha⟩ := step_is_engine_tick s u hu
    rw [if_neg (by simp [hP _ hs.head])] at he
    obtain ⟨hc, hft⟩ := ih (k0 + 1) u (hs.tail ha)
      (fun k e i hk hk2 hfk hi => ha.1 ▸ hf k e i (by omega) (by omega) hfk hi)
      (he ▸ hf k0 _ _ le_rfl (by omega) h0 hs.head) hr
    exact ⟨hc.trans ha.1, by rwa [show k0 + (n + 1) = k0 + 1 + n by omega]⟩

theorem State.AfterRun.imp {s : State} {n : Nat} {P Q : State → Prop} (h : s.AfterRun n P) (hq : ∀ t, P t → Q t) :
    s.AfterRun n Q := ⟨fun t ht => hq t (h.1 t ht), h.2⟩

end Sys2Proof.Machine
end

