-- ==== Sys2Proof/Tests/Slice0.lean ====
section
/-! SUPPORT. The model's own tests. Expected results come from the spec: the encoding tables (T6, T7, T9) and the vectors T1 to
T10 and P2 of 95_test_vectors.md. The `witness_` theorems show states and operands that meet a statement's hypotheses. -/

namespace Sys2Proof.Tests

/- The proofs below are elaborated one after another: side by side, each would take a thread of its own. -/
set_option Elab.async false

open Sys2Proof Sys2Proof.Machine

/-! ## Builders -/

/-- A toy machine (V3) with `BURST_LEN = 1`, `WIDE_FIELD_ADDR = 7`, a read of address 6 in mode 3, and this engine. -/
def toyState (e : Engine) : State :=
  { State.reset with cfg := Cfg.toy, params := ⟨0, .idx, .val⟩, engine := e, stim := [] }

/-- The engine in a discharge, at `down_cnt = d`, with the sample of T5 (`raw_index = 2`, `raw_cnt = 4`) if `a`. -/
def disch (d : Nat) (a : Bool) : Engine :=
  { Engine.reset with downCnt := d, sync0 := true, sync1 := true, avail := a, latched := a,
                      rawIndex := if a then 2 else 0, rawCnt := if a then 4 else 0 }

/-- The engine in a charge window, nothing latched, at `up_cnt = u`, with this synchronizer and run. -/
def chg (u : Nat) (s0 s1 : Bool) (z : Nat) : Engine :=
  { Engine.reset with phase := .charging, upCnt := u, sync0 := s0, sync1 := s1, zeroRun := z }

/-- The state with a BUS word on the ports. -/
def withBus (s : State) (w : Nat) : State := { s with pins := s.pins.withWord (BitVec.ofNat 14 w) }

/-- Quiet inputs but for `start` and `sense`, both high. -/
def running : Inputs := { Inputs.quiet with start := true, sense := true }

/-- The host's turn, with a ready transmitter. -/
def hostPins : Inputs := { Inputs.quiet with hostTurn := true, txAck := true }

/-- The host at a point of a stage, carrying out a command byte. -/
def hostAt (st : Stage) (pt : Point) (b : CmdByte) : State :=
  { toyState (disch 0 false) with
    pins := hostPins, fw := { Firmware.reset with stage := st, point := pt, xferType := b } }

/-- The state of T6: the flag set, copies (0x40, 0x3f, 98, 143), serial inputs 1, 0x09, 0. -/
def t6 (w : Nat) : State :=
  withBus { toyState (disch 0 false) with
            status := ⟨true, 0x40, 0x3F, 98, 143⟩,
            pins := { Inputs.quiet with rxRdy := true, rxData := 0x09 } } w

/-- What a step answers, seen through a field. -/
def view (o : Host.Outcome State Fault Refusal) (f : State → α) : Option α :=
  match o with
  | .next t => some (f t)
  | .fault _ | .refused _ => none

/-! ## WellFormed: a selector past the table is refused, in each command byte operation -/

theorem test_wf_xferVal_sel5 : WellFormed (.xferVal 0 5) = false := by decide
theorem test_wf_xferIdxOrCmp1_sel6 : WellFormed (.xferIdxOrCmp1 0 6) = false := by decide
theorem test_wf_xferIdxOrCmp2_sel7 : WellFormed (.xferIdxOrCmp2 7 7) = false := by decide
theorem test_wf_xferNone_sel5 : WellFormed (.xferNone 0 5) = false := by decide
theorem test_wf_last_selector : WellFormed (.xferNone 7 4) = true := by decide

/-! ## Decoding: one word of each row, from T6, T7, T9 and the rows of R85 -/

theorem test_decode_nop :
    decode [0x00, 0x00] = .ok (.nop false 0 0) ∧ decode [0xFF, 0x1F] = .ok (.nop true 15 0xFF) ∧
      decode [0x00, 0x14] = .ok (.nop true 4 0) := by decide
theorem test_decode_serial_reads :
    decode [0x00, 0x20] = .ok (.rdUartRxRdy 0) ∧ decode [0x00, 0x21] = .ok (.rdUartRxData 0) ∧
      decode [0x00, 0x22] = .ok (.rdUartTxAck 0) := by decide
theorem test_decode_copy_reads :
    decode [0xA5, 0x24] = .ok (.rdSampleRdy 0xA5) ∧ decode [0x00, 0x25] = .ok (.rdDacValCopy 0) ∧
      decode [0x00, 0x26] = .ok (.rdAdcValCopy 0) ∧ decode [0x00, 0x27] = .ok (.rdAdcIdxCopy 0) ∧
      decode [0x00, 0x28] = .ok (.rdAdcCntCopy 0) := by decide
theorem test_decode_reserved_reads :
    decode [0x00, 0x23] = .ok (.rdReserved3 0) ∧ decode [0x00, 0x29] = .ok (.rdReserved9 0) ∧
      decode [0x00, 0x2A] = .ok (.rdReserved10 0) ∧ decode [0x00, 0x2B] = .ok (.rdReserved11 0) ∧
      decode [0x00, 0x2C] = .ok (.rdReserved12 0) ∧ decode [0x00, 0x2D] = .ok (.rdReserved13 0) ∧
      decode [0x00, 0x2E] = .ok (.rdReserved14 0) ∧ decode [0x00, 0x2F] = .ok (.rdReserved15 0) := by decide
theorem test_decode_transmit : decode [0x41, 0x33] = .ok (.wrUartTxData 0x41) := by decide
theorem test_decode_reserved_writes :
    decode [0xFF, 0x30] = .ok (.wrReserved0 0xFF) ∧ decode [0x00, 0x31] = .ok (.wrReserved1 0) ∧
      decode [0x00, 0x32] = .ok (.wrReserved2 0) ∧ decode [0xFF, 0x34] = .ok (.wrReserved4 0xFF) ∧
      decode [0x00, 0x35] = .ok (.wrReserved5 0) ∧ decode [0x00, 0x36] = .ok (.wrReserved6 0) ∧
      decode [0x00, 0x37] = .ok (.wrReserved7 0) ∧ decode [0xFF, 0x38] = .ok (.wrReserved8 0xFF) := by decide
theorem test_decode_reserved_writes_high :
    decode [0x00, 0x39] = .ok (.wrReserved9 0) ∧ decode [0x00, 0x3A] = .ok (.wrReserved10 0) ∧
      decode [0x00, 0x3B] = .ok (.wrReserved11 0) ∧ decode [0x00, 0x3C] = .ok (.wrReserved12 0) ∧
      decode [0x00, 0x3D] = .ok (.wrReserved13 0) ∧ decode [0x00, 0x3E] = .ok (.wrReserved14 0) ∧
      decode [0xFF, 0x3F] = .ok (.wrReserved15 0xFF) := by decide
theorem test_decode_command_bytes :
    decode [0x00] = .ok (.xferVal 0 0) ∧ decode [0xE8] = .ok (.xferVal 7 2) ∧
      decode [0x0D] = .ok (.xferIdxOrCmp1 0 3) ∧ decode [0x12] = .ok (.xferIdxOrCmp2 0 4) ∧
      decode [0x03] = .ok (.xferNone 0 0) := by decide
theorem test_decode_rejects_bits_above : decode [0x00, 0x40] = .error (.bitsAboveBusWord 0x40) := by decide
theorem test_decode_rejects_lengths :
    decode [] = .error (.badLength 0) ∧ decode [0, 0, 0] = .error (.badLength 3) := by decide
theorem test_table_words :
    decodeTableWord 14 0x2400 = some (.rdSampleRdy 0) ∧ decodeTableWord 14 0x4000 = none ∧
      decodeTableWord 8 0x08 = some (.xferVal 0 2) ∧ decodeTableWord 8 0x100 = none := by decide

/-! ## Bus commands: T6 and T7 -/

theorem test_nop : view (step (t6 0x1FFF)) (fun t => (t.out.txWe, t.out.serRd, t.status)) =
    some (false, 0, ⟨true, 0x40, 0x3F, 98, 143⟩) := by decide +kernel
theorem test_rdUartRxRdy : view (step (t6 0x2000)) (fun t => (t.out.rdata, t.out.serRd, t.fw)) =
    some (1, 1, Firmware.reset) := by decide +kernel
theorem test_rdUartRxData : view (step (t6 0x2100)) (fun t => (t.out.rdata, t.out.serRd, t.fw)) =
    some (9, 2, Firmware.reset) := by decide +kernel
theorem test_rdUartTxAck : view (step (t6 0x2200)) (fun t => (t.out.rdata, t.out.serRd)) =
    some (0, 4) := by decide +kernel
theorem test_wrUartTxData : view (step (t6 0x3341)) (fun t => (t.out.txWe, t.out.txData, t.out.serRd)) =
    some (true, 0x41, 0) := by decide +kernel
theorem test_rdSampleRdy : view (step (t6 0x24A5)) (fun t => (t.out.rdata, t.status)) =
    some (1, ⟨false, 0x40, 0x3F, 98, 143⟩) := by decide +kernel
theorem test_rdDacValCopy : view (step (t6 0x2500)) (fun t => (t.out.rdata, t.status.sampleRdy)) =
    some (0x40, true) := by decide +kernel
theorem test_rdAdcValCopy : view (step (t6 0x2600)) (fun t => (t.out.rdata, t.status.sampleRdy)) =
    some (0x3F, true) := by decide +kernel
theorem test_rdAdcIdxCopy : view (step (t6 0x2700)) (fun t => (t.out.rdata, t.out.serRd)) =
    some (0x62, 0) := by decide +kernel
theorem test_rdAdcCntCopy : view (step (t6 0x2800)) (fun t => (t.out.rdata, t.out.serRd)) =
    some (0x8F, 0) := by decide +kernel

/-- T7: the reserved commands drive no strobe and leave the status block alone. -/
theorem test_reserved_commands :
    ∀ w ∈ [0x2300, 0x2900, 0x2A00, 0x2B00, 0x2C00, 0x2D00, 0x2E00, 0x2F00, 0x30FF, 0x3100, 0x3200, 0x34FF, 0x3500,
        0x3600, 0x3700, 0x38FF, 0x3900, 0x3A00, 0x3B00, 0x3C00, 0x3D00, 0x3E00, 0x3FFF],
      view (step (t6 w)) (fun t => (t.out.txWe, t.out.serRd, t.status)) =
        some (false, 0, ⟨true, 0x40, 0x3F, 98, 143⟩) := by decide +kernel

/-! ## The strobe: T5 -/

/-- The state of T5 with a flag, old copies (0x11, 1, 1, 3), `dac_in = 0x1e`. -/
def t5 (d : Nat) (a rdy : Bool) (w : Nat) : State :=
  withBus { toyState (disch d a) with
            status := ⟨rdy, 0x11, 1, 1, 3⟩, pins := { Inputs.quiet with dacIn := 0x1E } } w

theorem test_strobe_under_nop : view (step (t5 3 true false 0)) State.status =
    some ⟨true, 0x1E, 2, 2, 4⟩ := by decide +kernel
theorem test_strobe_beats_clearing_read :
    view (step (t5 3 true true 0x2400)) (fun t => (t.out.rdata, t.status)) =
      some (1, ⟨true, 0x1E, 2, 2, 4⟩) := by decide +kernel
theorem test_old_copy_in_strobe_tick :
    view (step (t5 3 true true 0x2500)) (fun t => (t.out.rdata, t.status)) =
      some (0x11, ⟨true, 0x1E, 2, 2, 4⟩) := by decide +kernel
theorem test_no_strobe_without_avail : view (step (t5 3 false false 0)) State.status =
    some ⟨false, 0x11, 1, 1, 3⟩ := by decide +kernel
theorem test_write_4_is_ignored : view (step (t5 1 true true 0x34FF)) State.status =
    some ⟨true, 0x11, 1, 1, 3⟩ := by decide +kernel

/-! ## The engine: T1, T2, T3, T4, P2 -/

/-- T1. -/
theorem test_conv_reference :
    [0, 1, 2, 3, 4, 10, 100, 139, 140, 143, 144, 146, 300, 403, 739, 740].map (conv Cfg.reference) =
      [0, 0, 1, 1, 2, 6, 69, 95, 96, 98, 99, 100, 207, 277, 510, 511] := by decide +kernel
/-- V3. -/
theorem test_conv_toy : [0, 1, 2, 3, 4, 5, 6].map (conv Cfg.toy) = [0, 0, 1, 1, 2, 2, 3] := by decide +kernel
/-- T4. -/
theorem test_val_reference :
    [0, 98, 255, 256, 340, 511].map (fun k => Engine.valOut Cfg.reference { Engine.reset with rawIndex := k }) =
      [0, 63, 149, 149, 188, 255] := by decide +kernel
/-- T4, raw mode. -/
theorem test_val_raw :
    [0, 98, 255, 256, 340, 511].map
      (fun k => Engine.valOut { Cfg.reference with rawMode := true } { Engine.reset with rawIndex := k }) =
      [0, 98, 255, 0, 84, 255] := by decide +kernel
/-- T3: the done tick with `start` low and with `start` high. -/
theorem test_done_tick :
    ((disch 3 true).tick Cfg.toy Inputs.quiet).phase = .discharging ∧
      ((disch 3 true).tick Cfg.toy Inputs.quiet).downCnt = 0 ∧
      ((disch 3 true).tick Cfg.toy Inputs.quiet).latched = false ∧
      ((disch 3 true).tick Cfg.toy Inputs.quiet).avail = true ∧
      ((disch 3 true).tick Cfg.toy running).phase = .charging ∧
      ((disch 3 true).tick Cfg.toy running).avail = false := by decide +kernel
/-- P2, tick 8 to tick 9: the hit at `up_cnt = 4`. -/
theorem test_hit : (chg 4 false false 1).tick Cfg.toy Inputs.quiet =
    { chg 5 false false 2 with latched := true, avail := true, rawIndex := 2, rawCnt := 4 } := by decide +kernel
/-- P2, tick 21 to tick 22: the forced saturation. -/
theorem test_never_trip : (chg 6 true true 0).tick Cfg.toy running =
    { disch 0 true with rawIndex := 3, rawCnt := 6 } := by decide +kernel
/-- T2: a hit in the timeout tick is a conversion, not the forced index. -/
theorem test_hit_in_timeout : ((chg 740 false false 1).tick Cfg.reference Inputs.quiet).rawIndex = 511 ∧
    ((chg 600 false false 1).tick (Cfg.derive 8 9 600 10 true []) Inputs.quiet).rawIndex = 510 := by decide +kernel
/-- T8: reset, under a clearing read. -/
theorem test_reset_tick :
    view (step { t5 3 true true 0x2400 with pins := { (t5 3 true true 0x2400).pins with rst := true } })
      (fun t => (t.engine, t.status, t.out.rdata)) = some (Engine.reset, Status.reset, 1) := by decide +kernel

/-! ## Configurations: R116, T10 -/

/-- R116 (a), (c) on the tables handed to the model. -/
theorem test_tables_pass_R116 :
    ∀ c ∈ [Cfg.reference, Cfg.toy], c.tableMonotone = true ∧ c.tableClamped = true := by decide +kernel
/-- A table that falls, and one with a code past `res` bits. -/
theorem test_bad_tables_fail_R116 :
    ({ Cfg.toy with table := [0, 2, 1, 3] } : Cfg).tableMonotone = false ∧
      ({ Cfg.toy with table := [0, 1, 2, 4] } : Cfg).tableClamped = false := by decide
/-- R101, R263: `thresh = 4 V` is above `Vdd`, `Vref = Vdd`; R7: `Hz = 0`. -/
theorem test_construct_refusals :
    construct { Primary.reference with thresh := 4 } round Cfg.reference = .error .domain ∧
      construct { Primary.reference with vref := Primary.reference.vdd } round Cfg.reference = .error .domain ∧
      construct { Primary.reference with hz := 0 } round Cfg.reference = .error .count := by decide +kernel
theorem test_construct_reference : construct Primary.reference round Cfg.reference = .ok Cfg.reference := by
  decide +kernel

/-! ## Host command bytes: T9, P5 -/

/-- P5: a sample whose DAC byte is not 64 is discarded under byte 0x08. -/
theorem test_xferVal_filter :
    view (step { hostAt .idle (.readAdc .val) 0x08 with fw := ⟨.idle, .readAdc .val, 0x08, 0, 0x3E, 0⟩ })
      (fun t => (t.fw.stage, t.fw.point)) = some (.idle, .pollSample) := by decide +kernel
/-- P5: a sample whose DAC byte is 64 is sent, its DAC byte first. -/
theorem test_xferVal_proceeds :
    view (step { hostAt .idle (.readAdc .val) 0x08 with fw := ⟨.idle, .readAdc .val, 0x08, 0, 0x40, 0⟩ })
      (fun t => (t.fw.stage, t.fw.point)) = some (.loadDac, .pollTx .dac) := by decide +kernel
/-- T9, 0x0D: mode 1 sends a high byte after the low byte. -/
theorem test_xferIdxOrCmp1_two_bytes :
    view (step { hostAt .loadAdc (.send .adcLow) 0x0D with fw := ⟨.loadAdc, .send .adcLow, 0x0D, 0, 0x40, 0x1FF⟩ })
      (fun t => (t.out.txWe, t.out.txData, t.fw.point)) = some (true, 0xFF, .pollTx .adcHigh) := by decide +kernel
/-- P5: `ff 01` on the wire, and the burst of one is over. -/
theorem test_xferIdxOrCmp2_high_byte :
    view (step { hostAt .loadAdc (.send .adcHigh) 0x12 with fw := ⟨.loadAdc, .send .adcHigh, 0x12, 0, 0x40, 0x1FF⟩ })
      (fun t => (t.out.txData, t.fw.stage, t.fw.count)) = some (0x01, .idle, 0) := by decide +kernel
/-- T9, 0x03: the DAC byte alone. -/
theorem test_xferNone :
    view (step { hostAt .loadDac (.send .dac) 0x03 with fw := ⟨.loadDac, .send .dac, 0x03, 0, 0x41, 0⟩ })
      (fun t => (t.out.txData, t.fw.stage, t.fw.point)) = some (0x41, .idle, .pollRx) := by decide +kernel
/-- T9, 0x14, 0x18, 0x1C: refused. -/
theorem test_selectors_refused :
    ∀ b ∈ ([0x14, 0x18, 0x1C, 0x17] : List CmdByte), view (step (hostAt .idle .pollSample b)) State.draws = none := by
  decide +kernel

/-! ## The host's interface: every row of the table, placed after reset, runs -/

/-- One word of each BUS row. -/
theorem test_placed_bus_rows_run :
    ∀ r ∈ busRows, (view (step (State.reset.withFetchWord 14 r.pattern)) State.draws) = some 1 := by decide +kernel

/-- One byte of each CMD row. -/
theorem test_placed_cmd_rows_run :
    ∀ r ∈ cmdRows, (view (step (State.reset.withFetchWord 8 r.pattern)) State.draws) = some 1 := by decide +kernel

/-! ## Witnesses: states and operands that meet the hypotheses of the statements

A clause of a statement has its own line, at a boundary of its range where it has one. -/

theorem next_of_view {o : Host.Outcome State Fault Refusal} {f : State → α} {x : α} (h : view o f = some x) :
    ∃ t, o = .next t ∧ f t = x := by
  cases o with
  | next t => exact ⟨t, rfl, Option.some.inj h⟩
  | fault r => cases h
  | refused r => cases h

/-- `n` further ticks of the same inputs. -/
def holding (s : State) (i : Inputs) (n : Nat) : State := { s with pins := i, stim := List.replicate n i }

/-- Running inputs in a turn of the documented host. -/
def hostRunning : Inputs := { hostPins with start := true, sense := true }

/-- The host, polling for a sample under command byte 0x10, beside this engine. -/
def hostBeside (e : Engine) : State := { hostAt .idle .pollSample 0x10 with engine := e }

theorem witness_EncodingUndoesDecoding :
    decode [0xFF, 0x3F] = .ok (.wrReserved15 0xFF) ∧ decode [0xFF] = .ok (.xferNone 7 7) := by decide

theorem witness_StepRunsTheDecodedInstruction :
    ((t6 0x24A5).cfg.Valid ∧ decode (t6 0x24A5).fetchBytes = .ok (.rdSampleRdy 0xA5)) ∧
      ((hostAt .loadDac (.send .dac) 0x0D).cfg.Valid ∧
        decode (hostAt .loadDac (.send .dac) 0x0D).fetchBytes = .ok (.xferIdxOrCmp1 0 3)) := by decide +kernel

theorem witness_TheTicksOperation :
    (t6 0x2400).pins.hostTurn = false ∧
      ((hostAt .idle .pollRx 0).pins.hostTurn = true ∧ (hostAt .idle .pollRx 0).fw.point = .pollRx) ∧
      ((hostAt .idle .readRx 0).pins.hostTurn = true ∧ (hostAt .idle .readRx 0).fw.point = .readRx) ∧
      ((hostAt .idle .pollSample 8).pins.hostTurn = true ∧ (hostAt .idle .pollSample 8).fw.listening = false) := by
  decide

theorem witness_PlacedWordsAreFetched :
    decode (State.reset.withFetchWord 14 (2 ^ 14 - 1)).fetchBytes = .ok (.wrReserved15 0xFF) ∧
      decode (State.reset.withFetchWord 8 (2 ^ 8 - 1)).fetchBytes = .ok (.xferNone 7 7) := by decide +kernel

theorem witness_StepStopsOnlyWhereTheSpecRefuses :
    (({ t6 0 with cfg := Cfg.derive 2 2 5 3 false [0, 1, 2, 3] } : State).cfg.check = some .indexRange ∧
      ((hostAt .idle .pollSample 0x14).cfg.Valid ∧ (hostAt .idle .pollSample 0x14).hostBusy = true ∧
        selectorInTable (CmdByte.sel (hostAt .idle .pollSample 0x14).fw.xferType) = false) ∧
      ((hostAt .idle .pollSample 0x10).cfg.Valid ∧ (hostAt .idle .pollSample 0x10).hostBusy = true ∧
        selectorInTable (CmdByte.sel (hostAt .idle .pollSample 0x10).fw.xferType) = true)) ∧
    ∀ s ∈ [holding (hostBeside (disch 0 false)) hostRunning 3, holding (hostAt .idle .pollRx 0x14) hostRunning 3,
        holding (hostAt .idle .pollSample 0x14) running 3],
      s.cfg.Valid ∧ s.InputsSatisfy 4 (Inputs.HostRuns s.fw) := by
  unfold State.InputsSatisfy; decide +kernel

/-- In the two cases of the tick after the last one `start` is high, then low. -/
theorem witness_DischargeTicksCountUp :
    (WellFormed (.rdSampleRdy 0) = true ∧ (toyState (disch 2 true)).pins.rst = false ∧
      (toyState (disch 2 true)).engine.phase = .discharging ∧
      (toyState (disch 2 true)).engine.downCnt ≠ (toyState (disch 2 true)).cfg.dischargeCnt) ∧
    (∀ i ∈ [running, hostRunning],
      let s := holding (hostBeside (disch 0 true)) i 2
      s.cfg.Valid ∧ s.engine.phase = .discharging ∧ s.engine.downCnt = 0 ∧ 3 ≤ s.cfg.dischargeCnt ∧
        s.InputsSatisfy 3 Inputs.NoReset ∧ view (s.run 3) State.draws = some 3) ∧
    ∀ i ∈ [running, hostRunning, Inputs.quiet],
      let s := holding (hostBeside (disch 0 true)) i 3
      s.cfg.Valid ∧ s.engine.phase = .discharging ∧ s.engine.downCnt = 0 ∧
        s.InputsSatisfy (s.cfg.dischargeCnt + 1) Inputs.NoReset ∧ (s.pins :: s.stim)[s.cfg.dischargeCnt]? = some i ∧
        view (s.run (s.cfg.dischargeCnt + 1)) State.draws = some 4 := by
  unfold State.InputsSatisfy; decide +kernel

theorem witness_DoneTickEndsTheDischarge :
    WellFormed (.xferVal 0 4) = true ∧ (toyState (disch 3 true)).pins.rst = false ∧
      (toyState (disch 3 true)).engine.phase = .discharging ∧
      (toyState (disch 3 true)).engine.downCnt = (toyState (disch 3 true)).cfg.dischargeCnt := by decide

theorem witness_ChargeTicksCountUp :
    (WellFormed (.nop false 0 0) = true ∧ (toyState (chg 5 true true 0)).pins.rst = false ∧
      (toyState (chg 5 true true 0)).engine.phase = .charging ∧
      (toyState (chg 5 true true 0)).engine.upCnt ≠ (toyState (chg 5 true true 0)).cfg.maxCnt) ∧
    ∀ i ∈ [running, hostRunning],
      let s := holding (hostBeside (chg 0 true true 0)) i 5
      s.cfg.Valid ∧ s.engine.phase = .charging ∧ s.engine.upCnt = 0 ∧ 6 ≤ s.cfg.maxCnt ∧
        s.InputsSatisfy 6 Inputs.NoReset ∧ view (s.run 6) State.draws = some 6 := by
  unfold State.InputsSatisfy; decide +kernel

theorem witness_TimeoutEndsTheWindow :
    (WellFormed (.wrReserved4 0xFF) = true ∧ (toyState (chg 6 true true 0)).pins.rst = false ∧
      (toyState (chg 6 true true 0)).engine.phase = .charging ∧
      (toyState (chg 6 true true 0)).engine.upCnt = (toyState (chg 6 true true 0)).cfg.maxCnt) ∧
    ∀ i ∈ [running, hostRunning],
      let s := holding (hostBeside (chg 0 true true 0)) i 6
      s.cfg.Valid ∧ s.engine.phase = .charging ∧ s.engine.upCnt = 0 ∧
        s.InputsSatisfy (s.cfg.maxCnt + 1) Inputs.NoReset ∧ 6 ≤ s.cfg.maxCnt ∧
        view (s.run 7) State.draws = some 7 := by
  unfold State.InputsSatisfy; decide +kernel

theorem witness_DebounceCountsLowReadings :
    WellFormed (.nop false 0 0) = true ∧ (toyState (chg 0 true true 0)).pins.rst = false ∧
      ((chg 5 false false 2).phase = .charging ∧ (chg 5 false false 2).upCnt ≠ Cfg.toy.maxCnt ∧
        (chg 5 false false 2).sync1 = false) ∧
      ((chg 5 true true 1).phase = .charging ∧ (chg 5 true true 1).upCnt ≠ Cfg.toy.maxCnt ∧
        (chg 5 true true 1).sync1 = true) ∧
      (disch 3 false).phase = .discharging := by decide

theorem witness_HitLatchesTheCount :
    ∀ u ∈ [1, 6], WellFormed (.rdReserved9 0) = true ∧ (toyState (chg u false false 1)).pins.rst = false ∧
      (toyState (chg u false false 1)).engine.phase = .charging ∧
      (toyState (chg u false false 1)).engine.sync1 = false ∧ (toyState (chg u false false 1)).engine.zeroRun = 1 ∧
      (toyState (chg u false false 1)).engine.latched = false := by decide

theorem witness_NeverTripForcesTheTopIndex :
    ∀ e ∈ [chg 6 true true 0, chg 6 false false 0], WellFormed (.nop false 0 0) = true ∧
      (toyState e).pins.rst = false ∧ (toyState e).engine.phase = .charging ∧
      (toyState e).engine.upCnt = (toyState e).cfg.maxCnt ∧ (toyState e).engine.latched = false ∧
      ¬((toyState e).engine.sync1 = false ∧ (toyState e).engine.zeroRun = 1) := by decide

theorem witness_OnlyALatchWritesTheSample :
    ∀ e ∈ [disch 3 true, disch 2 true, chg 5 true true 1], WellFormed (.nop false 0 0) = true ∧
      (toyState e).pins.rst = false ∧ (toyState e).engine.hit = false ∧
      (toyState e).engine.neverTrip (toyState e).cfg = false := by decide

theorem witness_SynchronizerDelaysTwoTicks :
    WellFormed (.nop false 0 0) = true ∧ WellFormed (.xferNone 0 4) = true ∧
      (holding (toyState (disch 3 true)) running 1).pins.rst = false ∧
      (holding (toyState (disch 3 true)) running 1).nextPins.rst = false := by decide

theorem witness_ConversionIsExact : Cfg.reference.Valid ∧ 740 ≤ Cfg.reference.maxCnt := by decide +kernel

theorem witness_ConversionFitsTheIndex :
    Cfg.reference.Valid ∧ 740 ≤ Cfg.reference.maxCnt ∧ Cfg.toy.Valid ∧ 739 ≤ 740 := by decide +kernel

theorem witness_HitNeedsTwoLowReadings :
    (toyState (chg 0 false false 0)).engine.PhaseClean ∧
      ∃ t, exec (.nop false 0 0) (toyState (chg 0 false false 0)) = .next t ∧ t.engine.hit = true :=
  ⟨by decide, _, rfl, by decide +kernel⟩

/-- The last line is the done tick with `start` high, in which `avail` falls. -/
theorem witness_AvailableSampleIsStable :
    (∀ e ∈ [disch 3 true, disch 0 true, { chg 6 false false 2 with latched := true, avail := true, rawIndex := 2,
                                                                    rawCnt := 4 }],
      WellFormed (.rdSampleRdy 0) = true ∧ (toyState e).Inv ∧ (toyState e).pins.rst = false ∧
      (toyState e).engine.avail = true) ∧
    ∀ s ∈ [holding (toyState (disch 3 true)) running 0],
      s.Inv ∧ s.pins.rst = false ∧ s.engine.avail = true ∧ s.engine.doneOut s.cfg = true ∧ s.pins.start = true :=
  ⟨by decide +kernel, by decide +kernel⟩

theorem witness_EveryWindowEndsWithASample :
    ∀ e ∈ [chg 6 true true 0, chg 6 false false 1], WellFormed (.nop false 0 0) = true ∧ (toyState e).Inv ∧
      (toyState e).pins.rst = false ∧ (toyState e).engine.timeout (toyState e).cfg = true := by decide +kernel

theorem witness_OutputsAreOfTheSnapshot :
    WellFormed (.nop false 0 0) = true ∧ ({ Cfg.toy with rawMode := true } : Cfg).rawMode = true ∧
      (toyState (disch 0 true)).cfg.rawMode = false ∧
      (toyState (disch 0 true)).cfg.table[(toyState (disch 0 true)).engine.rawIndex]? = some 2 := by decide

theorem witness_CodeFitsItsWidth :
    WellFormed (.nop false 0 0) = true ∧ (toyState { disch 0 true with rawIndex := 3, rawCnt := 6 }).Inv ∧
      (toyState (disch 0 true)).cfg.rawMode = false := by decide +kernel

/-- One configuration per clause: table mode, raw mode with `res ≤ lut_width`, raw mode with `res > lut_width`. -/
theorem witness_NeverTripGivesTheTopCode :
    ∀ c ∈ [Cfg.toy, { Cfg.toy with rawMode := true }, { Cfg.toy with rawMode := true, res := 3 }],
      WellFormed (.nop false 0 0) = true ∧ WellFormed (.rdSampleRdy 0) = true ∧
      ({ toyState (chg 6 true true 0) with cfg := c } : State).cfg.Valid ∧
      ({ toyState (chg 6 true true 0) with cfg := c } : State).pins.rst = false ∧
      ({ toyState (chg 6 true true 0) with cfg := c } : State).engine.neverTrip c = true := by decide +kernel

theorem witness_StrobeCapturesTheSample :
    WellFormed (.rdSampleRdy 0) = true ∧ (t5 3 true true 0x2400).pins.rst = false ∧
      (t5 3 true true 0x2400).engine.phase = .discharging ∧
      (t5 3 true true 0x2400).engine.downCnt = (t5 3 true true 0x2400).cfg.dischargeCnt ∧
      (t5 3 true true 0x2400).engine.avail = true := by decide

theorem witness_NoStrobeLeavesTheCopies :
    (WellFormed (.rdSampleRdy 0) = true ∧ (t5 2 true true 0).pins.rst = false ∧
      (t5 2 true true 0).engine.strobe (t5 2 true true 0).cfg = false) ∧
    (WellFormed (.xferVal 0 4) = true ∧ (Instr.xferVal 0 4).format = .cmd ∧
      (hostAt .idle .pollSample 0).fw.point = .pollSample ∧ (hostAt .idle .pollRx 0).fw.listening = true ∧
      (hostAt .idle .pollRx 0).pins.rst = false ∧
      (hostAt .idle .pollRx 0).engine.strobe (hostAt .idle .pollRx 0).cfg = false) ∧
    (WellFormed (.wrReserved4 0) = true ∧ (Instr.wrReserved4 0).format = .bus) := by decide

theorem witness_ReadingSampleRdyReturnsAndClears :
    (0x24A5 &&& 0x3F00 : BusWord) = 0x2400 ∧ ((t5 3 true true 0x2400).pins.rst = false ∧
      (t5 3 true true 0x2400).engine.strobe (t5 3 true true 0x2400).cfg = true) ∧
    ((t5 2 true true 0x2400).pins.rst = false ∧
      (t5 2 true true 0x2400).engine.strobe (t5 2 true true 0x2400).cfg = false) ∧
    (holding (t5 3 true true 0x2400) { Inputs.quiet with rst := true } 0).pins.rst = true := by decide

theorem witness_SecondReadFindsTheFlagClear :
    (t5 3 true true 0).pins.rst = false ∧ (t5 3 true true 0).engine.strobe (t5 3 true true 0).cfg = true ∧
      (t5 2 true true 0).pins.rst = false ∧ (t5 2 true true 0).engine.strobe (t5 2 true true 0).cfg = false := by
  decide

theorem witness_CopyReadsReturnTheCopies :
    (0x25FF &&& 0x3F00 : BusWord) = 0x2500 ∧ (0x26FF &&& 0x3F00 : BusWord) = 0x2600 ∧
      (0x27FF &&& 0x3F00 : BusWord) = 0x2700 ∧ (0x2800 &&& 0x3F00 : BusWord) = 0x2800 := by decide

theorem witness_TransmitHandsTheByteOn : (0x3341 &&& 0x3F00 : BusWord) = 0x3300 := by decide

theorem witness_SerialReadsPassThrough :
    ((0x2000 &&& 0x3F00 : BusWord) = 0x2000 ∧ (0x21FF &&& 0x3F00 : BusWord) = 0x2100 ∧
      (0x2201 &&& 0x3F00 : BusWord) = 0x2200) ∧
    ¬((t6 0x2100).pins.hostTurn = true ∧ (t6 0x2100).fw.point = .pollRx) ∧
      ¬((hostAt .idle .pollRx 0).pins.hostTurn = true ∧ (hostAt .idle .pollRx 0).fw.point = .readRx) := by decide

theorem witness_ReservedReadsChangeNothing :
    (.rdReserved3 0 : Instr) ∈ ([.rdReserved3 0, .rdReserved9 0, .rdReserved10 0, .rdReserved11 0, .rdReserved12 0,
      .rdReserved13 0, .rdReserved14 0, .rdReserved15 0] : List Instr) := by decide

theorem witness_ReservedWritesAreIgnored :
    (.wrReserved15 1 : Instr) ∈ ([.wrReserved0 1, .wrReserved1 1, .wrReserved2 1, .wrReserved4 1, .wrReserved5 1,
      .wrReserved6 1, .wrReserved7 1, .wrReserved8 1, .wrReserved9 1, .wrReserved10 1, .wrReserved11 1, .wrReserved12 1,
      .wrReserved13 1, .wrReserved14 1, .wrReserved15 1] : List Instr) := by decide

theorem witness_StrobesOnlyOnSerialCommands :
    (2 < 3 ∧ BusWord.en 0x2200 = true ∧ BusWord.we 0x2200 = false ∧ (BusWord.addr 0x2200).toNat = 2) ∧
      (BusWord.en 0x3341 = true ∧ BusWord.we 0x3341 = true ∧ (BusWord.addr 0x3341).toNat = 3) := by decide

theorem witness_ResetTickClearsTheBlock :
    WellFormed (.rdSampleRdy 0) = true ∧
      (holding (t5 3 true true 0) { Inputs.quiet with rst := true } 0).pins.rst = true := by decide

theorem witness_StepKeepsTheInvariant :
    (∃ t, (t5 3 true true 0x2400).Inv ∧ step (t5 3 true true 0x2400) = .next t) ∧
      ∃ t, (hostAt .loadDac (.send .dac) 0x03).Inv ∧ step (hostAt .loadDac (.send .dac) 0x03) = .next t := by
  obtain ⟨t, h, -⟩ := next_of_view (f := State.draws) (x := 1) (o := step (t5 3 true true 0x2400)) (by decide +kernel)
  obtain ⟨u, g, -⟩ := next_of_view (f := State.draws) (x := 1) (o := step (hostAt .loadDac (.send .dac) 0x03))
    (by decide +kernel)
  exact ⟨⟨t, by decide +kernel, h⟩, u, by decide +kernel, g⟩

theorem witness_StepKeepsTheConstants : ∃ t, step (t6 0x2400) = .next t := by
  obtain ⟨t, h, -⟩ := next_of_view (f := State.draws) (x := 1) (o := step (t6 0x2400)) (by decide +kernel)
  exact ⟨t, h⟩

/-- Two machines that differ in all that the bus and the host can hold, run for as many ticks as their inputs are known. -/
theorem witness_EngineIgnoresTheBus :
    let s1 := holding (t5 2 true true 0) (running.withWord 0x2400) 1
    let s2 := holding { hostAt .loadDac (.send .dac) 0x03 with engine := disch 2 true }
      { hostPins with start := true, sense := true } 1
    s1.cfg = s2.cfg ∧ s1.engine = s2.engine ∧
      Inputs.EngineSame s1.pins s2.pins ∧ List.Forall₂ Inputs.EngineSame s1.stim s2.stim ∧ 2 ≤ s1.stim.length + 1 ∧
      (∃ t, s1.run 2 = .next t) ∧ ∃ t, s2.run 2 = .next t := by
  intro s1 s2
  obtain ⟨t, h, -⟩ := next_of_view (f := State.draws) (x := 2) (o := s1.run 2) (by decide +kernel)
  obtain ⟨u, g, -⟩ := next_of_view (f := State.draws) (x := 2)
    (o := s2.run 2) (by decide +kernel)
  exact ⟨by decide +kernel, by decide +kernel, by decide +kernel, .cons (by decide) .nil, by decide, ⟨t, h⟩, u, g⟩

theorem witness_ConversionPeriod :
    ∀ k ∈ [1, 11], ∀ i ∈ [running, hostRunning],
      let s := holding (hostBeside (disch 3 true)) i 10
      s.Inv ∧ s.engine.doneOut s.cfg = true ∧
        s.InputsSatisfy (s.cfg.maxCnt + s.cfg.dischargeCnt + 2) Inputs.Running ∧
        0 < k ∧ k ≤ s.cfg.maxCnt + s.cfg.dischargeCnt + 2 ∧ view (s.run k) State.draws = some k := by
  unfold State.InputsSatisfy; decide +kernel

theorem witness_FirstStrobeAfterReset :
    ∀ k ∈ [0, 3, 14], ∀ i ∈ [running, hostRunning],
      let s := holding (hostBeside Engine.reset) i 13
      s.cfg.Valid ∧ s.engine = Engine.reset ∧
        s.InputsSatisfy (2 * s.cfg.dischargeCnt + s.cfg.maxCnt + 2) Inputs.Running ∧
        k ≤ 2 * s.cfg.dischargeCnt + s.cfg.maxCnt + 2 ∧ view (s.run k) State.draws = some k := by
  unfold State.InputsSatisfy; decide +kernel

/-- T2, toy: `sense` low from charge tick 3 on, a hit in the timeout tick, with the bus free and with the host on it. -/
theorem witness_CrossingIsLatchedThreeTicksLater :
    ∀ i ∈ [Inputs.quiet, hostPins],
      let s := holding (hostBeside (chg 3 true true 0)) i 3
      s.cfg.Valid ∧ s.engine.phase = .charging ∧ s.engine.latched = false ∧ s.engine.sync0 = true ∧ s.engine.sync1 = true ∧
        s.engine.upCnt + 3 ≤ s.cfg.maxCnt ∧ s.stim = i :: [i, i] ∧ s.pins.sense = false ∧ i.sense = false ∧
        s.InputsSatisfy 4 Inputs.NoReset ∧ view (s.run 4) State.draws = some 4 := by
  unfold State.InputsSatisfy; decide +kernel

/-! ### The host -/

theorem witness_HostReceivesACommandByte :
    ((hostAt .idle .pollRx 0).pins.hostTurn = true ∧ (hostAt .idle .pollRx 0).fw.point = .pollRx) ∧
      ((hostAt .idle .readRx 0).pins.hostTurn = true ∧ (hostAt .idle .readRx 0).fw.point = .readRx) := by decide

theorem witness_HostPollsUntilOne :
    selectorInTable (CmdByte.sel 0x10) = true ∧ (hostAt .idle .pollSample 0x10).fw.point = .pollSample ∧
      (hostAt .idle .pollSample 0x10).pins.rst = false ∧
      (hostAt .idle .pollSample 0x10).engine.strobe (hostAt .idle .pollSample 0x10).cfg = false ∧
      (hostAt .loadDac (.pollTx .dac) 0x10).fw.point = .pollTx .dac := by decide

theorem witness_HostReadsTheSample :
    selectorInTable (CmdByte.sel 0x10) = true ∧ selectorInTable (CmdByte.sel 0x11) = true ∧
      (hostAt .idle .readDac 0x10).fw.point = .readDac ∧ modeOf 0x10 = .val ∧ modeOf 0x11 = .idxOrCmp ∧
      modeOf 0x13 = .none ∧ selectorInTable (CmdByte.sel 0x13) = true ∧
      (hostAt .idle (.readAdc .val) 0x10).fw.point = .readAdc .val ∧
      (hostAt .idle (.readAdc .idx) 0x11).fw.point = .readAdc .idx ∧
      (hostAt .waitOrFinish (.readAdc .cnt) 0x11).fw.point = .readAdc .cnt := by decide

/-- The five clauses' cases: a mismatch (sel 2, DAC 0), no filter (sel 0), a match (sel 1, DAC 0), a running burst. -/
theorem witness_HostFiltersInIdleOnly :
    ((hostAt .idle (.readAdc .val) 0x08).fw.point = .readAdc .val ∧
      waitTable[(CmdByte.sel 0x08).toNat]? = some 64 ∧ (hostAt .idle (.readAdc .val) 0x08).fw.stage = .idle ∧
      CmdByte.sel 0x08 ≠ 0 ∧ (hostAt .idle (.readAdc .val) 0x08).fw.dacVal ≠ 64) ∧
    (waitTable[(CmdByte.sel 0x00).toNat]? = some 0 ∧ CmdByte.sel 0x00 = 0) ∧
    (waitTable[(CmdByte.sel 0x04).toNat]? = some 0 ∧ (hostAt .idle (.readAdc .val) 0x04).fw.dacVal = 0) ∧
    ((hostAt .waitOrFinish (.readAdc .val) 0x10).fw.point = .readAdc .val ∧
      waitTable[(CmdByte.sel 0x10).toNat]? = some 255 ∧
      (hostAt .waitOrFinish (.readAdc .val) 0x10).fw.stage = .waitOrFinish) := by decide

/-- The last line has a burst of two samples: after the first of them it goes on, after the second it is over. -/
theorem witness_HostSendsTheSample :
    (selectorInTable (CmdByte.sel 0x10) = true ∧ modeOf 0x10 ≠ .none ∧ modeOf 0x13 = .none ∧ modeOf 0x11 = .idxOrCmp ∧
      modeOf 0x10 ≠ .idxOrCmp ∧ (hostAt .loadDac (.send .dac) 0x10).fw.point = .send .dac ∧
      (hostAt .loadAdc (.send .adcLow) 0x10).fw.point = .send .adcLow ∧
      (hostAt .loadAdc (.send .adcHigh) 0x11).fw.point = .send .adcHigh) ∧
    ∀ n ∈ [0, 1],
      let h := hostAt .loadAdc (.send .adcHigh) 0x11
      let s : State := { h with params := ⟨1, .idx, .val⟩, fw := { h.fw with count := n } }
      s.fw.point = .send .adcHigh ∧ (s.fw.count + 1 = s.params.burstLen ↔ n = 1) := by decide

theorem witness_BurstEndsInIdle :
    (selectorInTable (CmdByte.sel 0x13) = true ∧
      (hostAt .loadDac (.send .dac) 0x13).fw.count + 1 = (hostAt .loadDac (.send .dac) 0x13).params.burstLen ∧
      (hostAt .loadDac (.send .dac) 0x13).fw.point = .send .dac ∧ modeOf 0x13 = .none) ∧
    ((hostAt .loadAdc (.send .adcLow) 0x10).fw.point = .send .adcLow ∧ modeOf 0x10 = .val) ∧
    ((hostAt .loadAdc (.send .adcHigh) 0x11).fw.point = .send .adcHigh ∧ modeOf 0x11 = .idxOrCmp) ∧
    ∃ t, exec (decodeCmd 0x13) (holding (hostAt .loadDac (.send .dac) 0x13) hostPins 1) = .next t ∧
      t.pins.hostTurn = true := by
  obtain ⟨t, h, h2⟩ := next_of_view (f := fun t => t.pins.hostTurn) (x := true)
    (o := exec (decodeCmd 0x13) (holding (hostAt .loadDac (.send .dac) 0x13) hostPins 1)) (by decide +kernel)
  exact ⟨by decide, by decide, by decide, t, h, h2⟩

theorem witness_HostTickIsItsBusCommand :
    ∀ i ∈ ([.xferVal 7 4, .xferIdxOrCmp1 7 4, .xferIdxOrCmp2 7 4, .xferNone 7 4] : List Instr),
      i ∈ ([.xferVal 7 4, .xferIdxOrCmp1 7 4, .xferIdxOrCmp2 7 4, .xferNone 7 4] : List Instr) ∧
      selectorInTable 4 = true ∧ (hostAt .loadDac (.send .dac) 0x10).fw.listening = false := by decide

theorem witness_SelectorPastTheTableIsRefused :
    5 ≤ (CmdByte.sel 0x14).toNat ∧ 5 ≤ (CmdByte.sel 0x1F).toNat := by decide

theorem witness_CommandByteAliases :
    (∃ t, exec (.xferVal 7 4) (hostAt .loadAdc (.send .adcLow) 0x10) = .next t) ∧
      (∃ t, exec (.xferIdxOrCmp1 7 4) (hostAt .loadAdc (.send .adcLow) 0x11) = .next t) ∧
      ∃ t, exec (.xferNone 7 4) (hostAt .loadDac (.send .dac) 0x13) = .next t := by
  obtain ⟨t, h, -⟩ := next_of_view (f := State.draws) (x := 1)
    (o := exec (.xferVal 7 4) (hostAt .loadAdc (.send .adcLow) 0x10)) (by decide +kernel)
  obtain ⟨u, g, -⟩ := next_of_view (f := State.draws) (x := 1)
    (o := exec (.xferIdxOrCmp1 7 4) (hostAt .loadAdc (.send .adcLow) 0x11)) (by decide +kernel)
  obtain ⟨v, k, -⟩ := next_of_view (f := State.draws) (x := 1)
    (o := exec (.xferNone 7 4) (hostAt .loadDac (.send .dac) 0x13)) (by decide +kernel)
  exact ⟨⟨t, h⟩, ⟨u, g⟩, v, k⟩

/-- One state per mode. -/
theorem witness_OneSampleOnTheWire :
    ∀ b ∈ ([0x10, 0x11, 0x12, 0x13] : List CmdByte),
      let s := holding (hostAt .loadDac (.pollTx .dac) b) hostPins 5
      s.cfg.Valid ∧ selectorInTable (CmdByte.sel s.fw.xferType) = true ∧ s.fw.point = .pollTx .dac ∧
        s.InputsSatisfy (2 * (1 + (modeOf s.fw.xferType).adcBytes)) Inputs.HostMaySend := by
  unfold State.InputsSatisfy; decide +kernel

/-- A burst of one sample in mode 3: five ticks, after which the host listens; after four it does not yet. -/
theorem witness_BurstByteCount :
    let s := holding { hostAt .idle .pollSample 0x03 with status := ⟨true, 0x41, 2, 2, 4⟩ } hostPins 4
    s.fw.stage = .idle ∧ s.fw.point = .pollSample ∧ s.fw.count = 0 ∧ s.InputsSatisfy 5 Inputs.HostOnly ∧
      (∀ k u, k < 5 → s.run k = .next u → u.fw.listening = false) ∧
      (∃ t, s.run 5 = .next t ∧ t.fw.listening = true) ∧ ∃ t, s.run 4 = .next t ∧ t.fw.listening = false := by
  intro s
  have hk : ∀ k < 5, view (s.run k) (fun u => u.fw.listening) = some false := by decide +kernel
  refine ⟨rfl, rfl, rfl, by unfold State.InputsSatisfy; decide +kernel, fun k u h hr => ?_, ?_, ?_⟩
  · have := hk k h
    rw [hr] at this
    exact Option.some.inj this
  · exact next_of_view (by decide +kernel)
  · exact next_of_view (by decide +kernel)

/-! ### A configuration that the formulas give -/

/-- `R = C = 1`, `Vdd = 2`, `Vref = 1`, four ticks a second. -/
def smallPrimary : Primary where
  r := 1
  c := 1
  vdd := 2
  vref := 1
  hz := 4

/-- Its configuration for one output bit and four table entries. -/
def smallCfg : Cfg := Cfg.derive 1 2 3 24 false [0, 0, 0, 0]

theorem round_nearest : NearestRounding round := fun x => by rw [abs_sub_comm]; exact abs_sub_round x

theorem small_valid : smallCfg.Valid := by decide

theorem small_chargeTimeMax : smallPrimary.ChargeTimeMax (Real.log 2) := by
  refine ⟨by norm_num [smallPrimary], fun _ => ⟨1, by norm_num [Primary.IsRC, smallPrimary], ?_⟩⟩
  norm_num [smallPrimary]
  rw [show (1 / 2 : ℝ) = 2⁻¹ by norm_num, Real.log_inv, neg_neg]

theorem small_entry (i : ℕ) (h : i < 4) : smallPrimary.TableEntry 1 2 0 i 0 := by
  refine ⟨_, ⟨Real.log 2, _, small_chargeTimeMax, ⟨1, by norm_num [Primary.IsRC, smallPrimary], rfl⟩, rfl⟩, ?_⟩
  have hi : (i : ℝ) ≤ 3 := by exact_mod_cast Nat.le_of_lt_succ h
  have hl := Real.log_pos (show (1 : ℝ) < 2 by norm_num)
  set y := Real.exp (-(Real.log 2 * ((i : ℝ) + (0 : ℕ)) / 2 ^ 2) / 1) with hy
  have h1 : y ≤ 1 := by
    rw [hy, Real.exp_le_one_iff]
    have : 0 ≤ Real.log 2 * ((i : ℝ) + (0 : ℕ)) / 2 ^ 2 := by positivity
    linarith
  have h2 : 1 / 2 ≤ y := by
    rw [hy, show (1 / 2 : ℝ) = Real.exp (-Real.log 2) by rw [Real.exp_neg, Real.exp_log (by norm_num)]; norm_num]
    apply Real.exp_le_exp.2
    push_cast
    nlinarith
  have hf : ⌊((smallPrimary.vdd : ℝ) - 0) * (1 - y) * (i : ℝ) / 4⌋ = 0 := by
    rw [Int.floor_eq_zero_iff]
    norm_num [smallPrimary]
    have h0 : (0 : ℝ) ≤ i := by positivity
    constructor
    · apply div_nonneg _ (by norm_num)
      exact mul_nonneg (by linarith) h0
    · nlinarith
  rw [if_pos (by omega)]
  have : (((smallPrimary.vdd : ℝ) - 0) * (1 - y) + 0) * (2 ^ 1 / smallPrimary.vref) * (i : ℝ) / 8 =
      ((smallPrimary.vdd : ℝ) - 0) * (1 - y) * (i : ℝ) / 4 := by
    norm_num [smallPrimary]; ring
  rw [this, hf]
  norm_num

theorem small_threshVoltage : smallPrimary.threshVoltage 1 round = 0 := by decide +kernel

theorem small_threshStartIdx : smallPrimary.ThreshStartIdx 1 2 round Int.floor 0 := by
  refine ⟨0, _, small_chargeTimeMax, ⟨?_, fun _ => ⟨1, ?_, ?_⟩⟩, ?_⟩
  · rw [small_threshVoltage]; norm_num [smallPrimary]
  · norm_num [Primary.IsRC, smallPrimary]
  · rw [small_threshVoltage]; norm_num
  · norm_num

theorem small_builtFrom : smallCfg.BuiltFrom smallPrimary round Int.floor := by
  refine ⟨round_nearest, .inl fun _ => rfl, by decide +kernel, ⟨_, small_chargeTimeMax, ?_⟩,
    ⟨6, ⟨1, by norm_num [Primary.IsRC, smallPrimary], by norm_num⟩, ?_⟩, by decide, by decide, by decide, by decide, 0,
    small_threshStartIdx, ?_⟩
  · symm
    rw [Int.ceil_eq_iff]
    have := Real.log_two_gt_d9
    have := Real.log_two_lt_d9
    norm_num [smallPrimary, smallCfg, Cfg.derive]
    constructor <;> linarith
  · norm_num [smallPrimary, smallCfg, Cfg.derive]
  · intro i e h
    have hi : i < 4 := (List.getElem?_eq_some_iff.1 h).1
    have he : e = 0 := by
      have : ∀ i < 4, smallCfg.table[i]? = some 0 := by decide
      rw [this i hi] at h
      exact (Option.some.inj h).symm
    rw [he]
    exact small_entry i hi

/-- The second configuration of the uniqueness clause differs in `raw_mode`. -/
theorem witness_BuiltTableIsMonotoneAndUnique :
    smallCfg.BuiltFrom smallPrimary round Int.floor ∧ smallCfg.table[2]? = some 0 ∧ smallCfg.table[2 + 1]? = some 0 ∧
      ({ smallCfg with rawMode := true } : Cfg).BuiltFrom smallPrimary round Int.floor ∧
      ({ smallCfg with rawMode := true } : Cfg).res = smallCfg.res ∧
      ({ smallCfg with rawMode := true } : Cfg).lutWidth = smallCfg.lutWidth :=
  ⟨small_builtFrom, rfl, rfl, small_builtFrom, rfl, rfl⟩

theorem witness_ConfigurationVerdicts : NearestRounding round := round_nearest

/-- Floor, ceiling and the nearest integer are all admitted for the start index. -/
theorem witness_ReferenceConfigurationIsTheFormulas :
    NearestRounding round ∧ ∀ idxRound ∈ ([Int.floor, Int.ceil, round] : List (ℝ → ℤ)), IndexRounding idxRound := by
  refine ⟨round_nearest, fun r h => ?_⟩
  simp only [List.mem_cons, List.not_mem_nil, or_false] at h
  obtain rfl | rfl | rfl := h
  · exact .inl fun _ => rfl
  · exact .inr (.inl fun _ => rfl)
  · exact .inr (.inr fun x => by rw [abs_sub_comm]; exact abs_sub_round x)

end Sys2Proof.Tests
end

section
/-! The step and the decoded operation. -/

namespace Sys2Proof.Proofs

open Sys2Proof.Machine

/-- Settles O5: the law `step_valid`, for every state and operation. An invalid configuration and bytes that do not decode
are the only other branches of `step`, and the two hypotheses exclude them. -/
theorem stepRunsTheDecodedInstruction : Obligations.StepRunsTheDecodedInstruction := by
  intro s i hvalid hdecode
  exact step_valid s i hvalid hdecode

end Sys2Proof.Proofs
end

section
/-! The state after reset, and what no step writes. -/

namespace Sys2Proof.Proofs

open Sys2Proof.Machine

/-! ## The state after reset -/

/-- Settles O39: the values R45 (with D3) and R231 give are those the reset state is built from. -/
theorem stateAfterReset : Obligations.StateAfterReset := by
  unfold Obligations.StateAfterReset
  and_intros <;> rfl

/-- R118 (b) to (g) for the reference configuration, each an arithmetic fact about its constants and its 512 entries. -/
theorem cfg_reference_valid : Cfg.reference.Valid := by
  have tableFits : Cfg.reference.tableFits = true := by decide +kernel
  refine (cfg_valid_iff _).2 ⟨?widths, ?counts, ?counterHoldsIndex, ?consistent, ?shiftedMax, tableFits⟩
  all_goals decide

/-- The reset engine satisfies the engine's invariant on every configuration: its counters are 0, and it is discharging, so
that what R151 (b) to (d) say of a charge window asks nothing of it. -/
theorem engine_reset_inv (c : Cfg) : Engine.reset.Inv c := by
  have notCharging : Engine.reset.phase ≠ .charging := by decide
  refine ⟨⟨?up, ?down, ?run, ?index, ?count⟩, ⟨?restUp, ?restDown⟩, ?avail, ?latched, ?pending⟩
  case up | down | run | count => exact Nat.zero_le _
  case index => exact Nat.two_pow_pos c.lutWidth
  case restUp => exact fun _ => ⟨rfl, rfl⟩
  case restDown | avail | pending => exact fun h => absurd h notCharging
  case latched => exact fun _ h => absurd h notCharging

/-- The reset copies are 0 and fit every width. -/
theorem status_reset_inv (c : Cfg) : Status.reset.Inv c :=
  ⟨Nat.two_pow_pos c.res, Nat.two_pow_pos c.lutWidth, Nat.zero_le _⟩

/-- The reset host polls for a command byte in IDLE with no sample counted; a burst has at least one sample. -/
theorem firmware_reset_inv (p : HostParams) : Firmware.reset.Inv p :=
  ⟨rfl, Nat.succ_pos _, fun _ => rfl⟩

/-- Settles O40, from the invariant's four parts at reset. -/
theorem resetStateIsSafe : Obligations.ResetStateIsSafe :=
  ⟨cfg_reference_valid, engine_reset_inv _, status_reset_inv _, firmware_reset_inv _⟩

/-! ## What no step writes -/

/-- Settles O42: whoever drives the bus, a step is one tick, and a tick writes neither (`step_is_engine_tick`). -/
theorem stepKeepsTheConstants : Obligations.StepKeepsTheConstants := by
  intro s t h
  obtain ⟨-, hcfg, hparams, -⟩ := step_is_engine_tick s t h
  exact ⟨hcfg, hparams⟩

end Sys2Proof.Proofs
end

section
/-! Words, their bytes and their operations (30_encoding.md): the encoder and the decoder undo each other. -/

namespace Sys2Proof.Proofs

/-! ## Words from their fields -/

/-- A BUS word is the concatenation of its four fields (R81). -/
@[simp] theorem busWord_fields (w : BusWord) :
    busWord (BusWord.en w) (BusWord.we w) (BusWord.addr w) (BusWord.wdata w) = w := by
  ext i hi
  simp [busWord, BusWord.en, BusWord.we, BusWord.addr, BusWord.wdata]
  grind

/-- A CMD byte is the concatenation of its three fields (R82). -/
@[simp] theorem cmdByte_fields (b : CmdByte) : cmdByte (CmdByte.ign b) (CmdByte.sel b) (CmdByte.mode b) = b := by
  ext i hi
  simp [cmdByte, CmdByte.ign, CmdByte.sel, CmdByte.mode]
  grind

/-! ## A BUS word as two bytes (log entry 14) -/

/-- The word that two bytes hold, low byte first. -/
theorem append_toBytes (w : BusWord) :
    ((w.extractLsb' 8 6).setWidth 8).extractLsb' 0 6 ++ w.extractLsb' 0 8 = w := by
  ext i hi
  simp
  grind

/-- Two bytes whose top two bits are 0 are the bytes of the word they hold. -/
theorem toBytes_append (lo hi : Byte) (h : hi.toNat < 64) : BusWord.toBytes (hi.extractLsb' 0 6 ++ lo) = [lo, hi] := by
  have hlo : (hi.extractLsb' 0 6 ++ lo).extractLsb' 0 8 = lo := BitVec.extractLsb'_append_eq_right
  have hhi : ((hi.extractLsb' 0 6 ++ lo).extractLsb' 8 6).setWidth 8 = hi := by
    rw [BitVec.extractLsb'_append_eq_left]
    apply BitVec.eq_of_toNat_eq
    simp
    omega
  rw [BusWord.toBytes, hlo, hhi]

/-! ## The decoder -/

/-- Bytes that decode are one CMD byte or the two bytes of a BUS word, and the operation is the table's for it. -/
theorem decode_cases (bs : List Byte) (i : Instr) (h : decode bs = .ok i) :
    (∃ b, bs = [b] ∧ i = decodeCmd b) ∨ ∃ w, bs = BusWord.toBytes w ∧ i = decodeBus w := by
  match bs with
  | [] => cases h
  | [b] => exact .inl ⟨b, rfl, (Except.ok.inj h).symm⟩
  | [lo, hi] =>
    by_cases hhi : hi.toNat < 64
    · simp only [decode, hhi, if_true] at h
      exact .inr ⟨_, (toBytes_append lo hi hhi).symm, (Except.ok.inj h).symm⟩
    · simp [decode, hhi] at h
  | _ :: _ :: _ :: _ => cases h

theorem decode_cmd (b : CmdByte) : decode [b] = .ok (decodeCmd b) := rfl

/-- A BUS word built from its fields is a command of its address if `en` is 1 (R85, R88). -/
theorem decodeBus_busWord (en we : Bool) (a : RegAddr) (d : Byte) :
    decodeBus (busWord en we a d) =
      if en then if we then decodeWrite a d else decodeRead a d else .nop we a d := by
  simp [decodeBus]

theorem decode_nopWord (we : Bool) (a : RegAddr) (d : Byte) :
    decode (BusWord.toBytes (busWord false we a d)) = .ok (.nop we a d) := by
  simp [decode_toBytes, decodeBus_busWord]

theorem decode_readWord (a : RegAddr) (d : Byte) :
    decode (BusWord.toBytes (busWord true false a d)) = .ok (decodeRead a d) := by
  simp [decode_toBytes, decodeBus_busWord]

theorem decode_writeWord (a : RegAddr) (d : Byte) :
    decode (BusWord.toBytes (busWord true true a d)) = .ok (decodeWrite a d) := by
  simp [decode_toBytes, decodeBus_busWord]

/-- A CMD byte built from its fields is the host command of its mode (R82, R89 (b)). -/
theorem decodeCmd_cmdByte (ign sel : BitVec 3) (mode : BitVec 2) :
    decodeCmd (cmdByte ign sel mode) =
      match mode.toNat with
      | 0 => .xferVal ign sel
      | 1 => .xferIdxOrCmp1 ign sel
      | 2 => .xferIdxOrCmp2 ign sel
      | _ => .xferNone ign sel := by
  simp only [decodeCmd, CmdByte.mode_cmdByte, CmdByte.ign_cmdByte, CmdByte.sel_cmdByte] <;> rfl

/-! ## The encoder -/

/-- The encoding of an address's read command is its word's. -/
theorem encode_decodeRead (a : RegAddr) (d : Byte) :
    encode (decodeRead a d) = BusWord.toBytes (busWord true false a d) := by
  fin_cases a <;> rfl

/-- The encoding of an address's write command is its word's. -/
theorem encode_decodeWrite (a : RegAddr) (d : Byte) :
    encode (decodeWrite a d) = BusWord.toBytes (busWord true true a d) := by
  fin_cases a <;> rfl

/-- Encoding a BUS word's operation gives the word's bytes: no bit of the word is dropped. -/
theorem encode_decodeBus (w : BusWord) : encode (decodeBus w) = BusWord.toBytes w := by
  rw [← busWord_fields w, decodeBus_busWord]
  cases BusWord.en w with
  | false => rfl
  | true =>
    cases BusWord.we w with
    | false => exact encode_decodeRead _ _
    | true => exact encode_decodeWrite _ _

/-- Encoding a CMD byte's operation gives the byte, its ignored bits included. -/
theorem encode_decodeCmd (b : CmdByte) : encode (decodeCmd b) = [b] := by
  rw [← cmdByte_fields b, decodeCmd_cmdByte]
  generalize CmdByte.mode b = mode
  fin_cases mode <;> rfl

/-! ## The two directions -/

/-- Settles O1. An operation's encoding is a word built from the operation's fields, whose decoding is the operation of its
`en` and `we` bits and its address, or of its mode. -/
theorem decodingUndoesEncoding : Obligations.DecodingUndoesEncoding := by
  intro i
  cases i
  case nop we addr wdata => exact decode_nopWord we addr wdata
  case xferVal ign sel => exact congrArg Except.ok (decodeCmd_cmdByte ign sel 0)
  case xferIdxOrCmp1 ign sel => exact congrArg Except.ok (decodeCmd_cmdByte ign sel 1)
  case xferIdxOrCmp2 ign sel => exact congrArg Except.ok (decodeCmd_cmdByte ign sel 2)
  case xferNone ign sel => exact congrArg Except.ok (decodeCmd_cmdByte ign sel 3)
  case wrUartTxData wdata | wrReserved0 wdata | wrReserved1 wdata | wrReserved2 wdata | wrReserved4 wdata |
      wrReserved5 wdata | wrReserved6 wdata | wrReserved7 wdata | wrReserved8 wdata | wrReserved9 wdata |
      wrReserved10 wdata | wrReserved11 wdata | wrReserved12 wdata | wrReserved13 wdata | wrReserved14 wdata |
      wrReserved15 wdata =>
    exact decode_writeWord _ wdata
  all_goals exact decode_readWord _ _

/-- Settles O2: the bytes are those of a word, and encoding a word's operation gives the word's bytes. -/
theorem encodingUndoesDecoding : Obligations.EncodingUndoesDecoding := by
  intro bs i h
  obtain ⟨b, rfl, rfl⟩ | ⟨w, rfl, rfl⟩ := decode_cases bs i h
  · exact encode_decodeCmd b
  · exact encode_decodeBus w

end Sys2Proof.Proofs
end

section
/-! The opcode map (R85, R86, R88): every word belongs to the row of its operation and to no other. -/

namespace Sys2Proof.Proofs

/-! ## The rows of the map exclude each other -/

/-- Two rows with a word in common agree on the bits that both of them fix. -/
theorem covers_common (r q : OpcodeRow) (w : Nat) (hr : r.covers w) (hq : q.covers w) :
    r.pattern &&& q.mask = q.pattern &&& r.mask := by
  unfold OpcodeRow.covers at hr hq
  rw [← hr, ← hq, Nat.and_right_comm]

/-- Any two rows of format BUS that agree on the bits both fix are one row. -/
theorem busRows_disjoint : ∀ r ∈ busRows, ∀ q ∈ busRows, r.pattern &&& q.mask = q.pattern &&& r.mask → r = q := by
  decide +kernel

/-- Any two rows of format CMD that agree on the bits both fix are one row. -/
theorem cmdRows_disjoint : ∀ r ∈ cmdRows, ∀ q ∈ cmdRows, r.pattern &&& q.mask = q.pattern &&& r.mask → r = q := by
  decide +kernel

/-- In a map whose rows exclude each other, a row that covers a word is the only one that does. -/
theorem covers_iff_eq (rows : List OpcodeRow)
    (hdisj : ∀ r ∈ rows, ∀ q ∈ rows, r.pattern &&& q.mask = q.pattern &&& r.mask → r = q)
    (q : OpcodeRow) (w : Nat) (hmem : q ∈ rows) (hcov : q.covers w) :
    ∀ r ∈ rows, r.covers w ↔ r = q := by
  intro r hr
  constructor
  · exact fun h => hdisj r hr q hmem (covers_common r q w h hcov)
  · rintro rfl
    exact hcov

/-! ## The row of a decoded BUS word -/

/-- The masks of the map pick fields of the word: bitwise and acts on each field. -/
theorem busWord_and (en en' we we' : Bool) (a a' : RegAddr) (d d' : Byte) :
    busWord en we a d &&& busWord en' we' a' d' = busWord (en && en') (we && we') (a &&& a') (d &&& d') := by
  unfold busWord
  rw [BitVec.and_append, BitVec.and_append, BitVec.and_append, BitVec.ofBool_and_ofBool, BitVec.ofBool_and_ofBool]

/-- The mask of a read or a write keeps the fields `en`, `we` and `addr`. -/
theorem busWord_and_commandMask (en we : Bool) (a : RegAddr) (d : Byte) :
    (busWord en we a d).toNat &&& 0x3F00 = (busWord en we a 0).toNat := by
  have hmask : 0x3F00 = (busWord true true 15 0).toNat := rfl
  have ha : a &&& 15 = a := BitVec.and_allOnes
  have hd : d &&& 0 = 0 := BitVec.and_zero
  rw [hmask, ← BitVec.toNat_and, busWord_and, Bool.and_true, Bool.and_true, ha, hd]

/-- The mask of NOP keeps the field `en`. -/
theorem busWord_and_enMask (we : Bool) (a : RegAddr) (d : Byte) : (busWord false we a d).toNat &&& 0x2000 = 0 := by
  have hmask : 0x2000 = (busWord true false 0 0).toNat := rfl
  have ha : a &&& 0 = 0 := BitVec.and_zero
  have hd : d &&& 0 = 0 := BitVec.and_zero
  rw [hmask, ← BitVec.toNat_and, busWord_and, Bool.and_false, ha, hd]
  rfl

/-- The row of a read does not depend on the write data. -/
theorem row_decodeRead (a : RegAddr) (d : Byte) : (decodeRead a d).row = (decodeRead a 0).row := by
  unfold decodeRead
  split <;> rfl

/-- The row of a write does not depend on the write data. -/
theorem row_decodeWrite (a : RegAddr) (d : Byte) : (decodeWrite a d).row = (decodeWrite a 0).row := by
  unfold decodeWrite
  split <;> rfl

/-- The row of a read or a write does not depend on the write data. -/
theorem command_row_eq (we : Bool) (a : RegAddr) (d : Byte) :
    (decodeBus (busWord true we a d)).row = (decodeBus (busWord true we a 0)).row := by
  rw [decodeBus_busWord, decodeBus_busWord]
  cases we with
  | false => exact row_decodeRead a d
  | true => exact row_decodeWrite a d

/-- The row of a read or a write is in the map, and fixes `en`, `we` and `addr` at the command's values (R85). -/
theorem command_row (we : Bool) (a : RegAddr) (d : Byte) :
    (decodeBus (busWord true we a d)).row ∈ busRows ∧
      (decodeBus (busWord true we a d)).row.mask = 0x3F00 ∧
      (decodeBus (busWord true we a d)).row.pattern = (busWord true we a 0).toNat := by
  rw [command_row_eq we a d]
  revert we a
  decide +kernel

/-- A BUS word belongs to the row of its operation, and the row is in the map. -/
theorem decodeBus_row (w : BusWord) : (decodeBus w).row ∈ busRows ∧ (decodeBus w).row.covers w.toNat := by
  rw [← busWord_fields w]
  generalize BusWord.we w = we, BusWord.addr w = a, BusWord.wdata w = d
  cases BusWord.en w with
  | false =>
    rw [decodeBus_busWord]
    exact ⟨List.mem_cons_self, busWord_and_enMask we a d⟩
  | true =>
    obtain ⟨hmem, hmask, hpattern⟩ := command_row we a d
    refine ⟨hmem, ?_⟩
    rw [OpcodeRow.covers, hmask, hpattern]
    exact busWord_and_commandMask true we a d

/-! ## The row of a decoded CMD byte -/

/-- The mask of a host command keeps the field `mode`. -/
theorem cmdByte_and_modeMask (b : CmdByte) : b.toNat &&& 0x03 = (CmdByte.mode b).toNat := by
  simpa [CmdByte.mode] using Nat.and_two_pow_sub_one_eq_mod b.toNat 2

/-- A CMD byte belongs to the row of its operation, and the row is in the map. -/
theorem decodeCmd_row (b : CmdByte) : (decodeCmd b).row ∈ cmdRows ∧ (decodeCmd b).row.covers b.toNat := by
  have hmode := cmdByte_and_modeMask b
  have hlt := (CmdByte.mode b).isLt
  unfold decodeCmd
  split
  next h0 => exact ⟨by simp [cmdRows, Instr.row], hmode.trans h0⟩
  next h1 => exact ⟨by simp [cmdRows, Instr.row], hmode.trans h1⟩
  next h2 => exact ⟨by simp [cmdRows, Instr.row], hmode.trans h2⟩
  next h0 h1 h2 =>
    have h3 : (CmdByte.mode b).toNat = 3 := by grind
    exact ⟨by simp [cmdRows, Instr.row], hmode.trans h3⟩

/-- Settles O3: the operation's row covers the word, and the rows of the map exclude each other. -/
theorem everyWordIsOneRow : Obligations.EveryWordIsOneRow := by
  refine ⟨fun w => ?bus, fun b => ?cmd⟩
  case bus =>
    obtain ⟨hmem, hcov⟩ := decodeBus_row w
    exact ⟨hmem, covers_iff_eq busRows busRows_disjoint _ _ hmem hcov⟩
  case cmd =>
    obtain ⟨hmem, hcov⟩ := decodeCmd_row b
    exact ⟨hmem, covers_iff_eq cmdRows cmdRows_disjoint _ _ hmem hcov⟩

end Sys2Proof.Proofs
end

section
/-! Which operation a tick performs, how one is placed, and what of a command byte makes no difference. -/

namespace Sys2Proof.Proofs

open Sys2Proof.Machine

/-! ## The operation of a tick (R81, R231, R232) -/

/-- Settles O4: each list of bytes evaluates to the operation the vectors give. -/
theorem specWordsDecode : Obligations.SpecWordsDecode := by
  unfold Obligations.SpecWordsDecode
  and_intros <;> rfl

/-- While no command byte is carried out, the tick's operation is that of the BUS word of the ports or of the host. -/
theorem decode_fetchBytes_of_not_busy (s : State) (h : s.hostBusy = false) :
    decode s.fetchBytes = .ok (decodeBus s.tickWord) := by
  simp [State.fetchBytes, h, decode_toBytes]

/-- While the host carries out a command byte, that byte is the tick's operation. -/
theorem decode_fetchBytes_of_busy (s : State) (h : s.hostBusy = true) :
    decode s.fetchBytes = .ok (decodeCmd s.fw.xferType) := by
  simp [State.fetchBytes, h, decode_cmd]

theorem hostBusy_iff (s : State) : s.hostBusy = true ↔ s.pins.hostTurn = true ∧ s.fw.listening = false := by
  simp [State.hostBusy]

/-- In a tick that is not the host's, the operation is that of the BUS word on the ports. -/
theorem decode_fetchBytes_of_ports (s : State) (h : s.pins.hostTurn = false) :
    decode s.fetchBytes = .ok (decodeBus s.pins.portWord) := by
  have hbusy : s.hostBusy = false := by simp [State.hostBusy, h]
  have hword : s.tickWord = s.pins.portWord := by simp [State.tickWord, h]
  rw [decode_fetchBytes_of_not_busy s hbusy, hword]

/-- While the host receives a byte, the operation is that of its own BUS word. -/
theorem decode_fetchBytes_of_listening (s : State) (h : s.pins.hostTurn = true) (hl : s.fw.listening = true) :
    decode s.fetchBytes = .ok (decodeBus s.fw.word) := by
  have hbusy : s.hostBusy = false := by simp [State.hostBusy, hl]
  have hword : s.tickWord = s.fw.word := by simp [State.tickWord, h]
  rw [decode_fetchBytes_of_not_busy s hbusy, hword]

/-- The host's read of an address is the read command of the table, with write data 0. -/
theorem decodeBus_readWord (a : RegAddr) : decodeBus (readWord a) = decodeRead a 0 := by
  simp [readWord, decodeBus_busWord]

/-- Settles O6. The host listens at its two receiving points, where its own word is a read of address 0 or 1. -/
theorem theTicksOperation : Obligations.TheTicksOperation := by
  intro s
  refine ⟨decode_fetchBytes_of_ports s, fun h hpoint => ?poll, fun h hpoint => ?read, fun h hl => ?busy⟩
  case poll =>
    have hl : s.fw.listening = true := by simp [Firmware.listening, hpoint]
    have hword : s.fw.word = readWord 0 := by simp [Firmware.word, hpoint]
    rw [decode_fetchBytes_of_listening s h hl, hword, decodeBus_readWord]
    rfl
  case read =>
    have hl : s.fw.listening = true := by simp [Firmware.listening, hpoint]
    have hword : s.fw.word = readWord 1 := by simp [Firmware.word, hpoint]
    rw [decode_fetchBytes_of_listening s h hl, hword, decodeBus_readWord]
    rfl
  case busy => exact decode_fetchBytes_of_busy s ((hostBusy_iff s).2 ⟨h, hl⟩)

/-! ## Placing an operation for the next tick (log entries 14 and 15) -/

/-- The BUS word on the ports is the one put there. -/
@[simp] theorem portWord_withWord (i : Inputs) (w : BusWord) : (i.withWord w).portWord = w := busWord_fields w

/-- The two bytes of a 14-bit number are those of its BUS word. -/
theorem bytesOf_two (w : Nat) (h : w < 2 ^ 14) : bytesOf 2 w = BusWord.toBytes (BitVec.ofNat 14 w) := by
  have hlo : BitVec.ofNat 8 w = (BitVec.ofNat 14 w).extractLsb' 0 8 := by
    apply BitVec.eq_of_toNat_eq
    simp
  have hhi : BitVec.ofNat 8 (w >>> 8) = ((BitVec.ofNat 14 w).extractLsb' 8 6).setWidth 8 := by
    apply BitVec.eq_of_toNat_eq
    simp [Nat.shiftRight_eq_div_pow]
    omega
  rw [BusWord.toBytes, ← hlo, ← hhi]
  rfl

theorem bytesOf_one (w : Nat) : bytesOf 1 w = [BitVec.ofNat 8 w] := rfl

/-- A placed BUS word stands on the four ports, in a tick that is not the host's, and nothing else moves. -/
theorem place_toBytes (s : State) (w : BusWord) :
    s.place (BusWord.toBytes w) = { s with pins := s.pins.withWord w } := by
  simp only [BusWord.toBytes, State.place, append_toBytes]

theorem withFetchWord_bus (s : State) (w : Nat) (h : w < 2 ^ 14) :
    s.withFetchWord 14 w = { s with pins := s.pins.withWord (BitVec.ofNat 14 w) } := by
  rw [← place_toBytes, ← bytesOf_two w h]
  rfl

theorem withFetchWord_cmd (s : State) (w : Nat) :
    s.withFetchWord 8 w =
      { s with pins := { s.pins with hostTurn := true }, fw := s.fw.accept (BitVec.ofNat 8 w) } := rfl

/-- The table's reading of a 14-bit number is the decoding of its BUS word. -/
theorem decodeTableWord_bus (w : Nat) (h : w < 2 ^ 14) :
    decodeTableWord 14 w = some (decodeBus (BitVec.ofNat 14 w)) := by
  have hfits : w < 2 ^ (8 * 2) := by omega
  change (if w < 2 ^ (8 * 2) then (decode (bytesOf 2 w)).toOption else none) = _
  rw [if_pos hfits, bytesOf_two w h, decode_toBytes]
  rfl

/-- The table's reading of an 8-bit number is the decoding of its CMD byte. -/
theorem decodeTableWord_cmd (w : Nat) (h : w < 2 ^ 8) : decodeTableWord 8 w = some (decodeCmd (BitVec.ofNat 8 w)) :=
  if_pos h

/-- Settles O7: a placed word is the ports' word, and a placed byte is in the hand of a host that no longer listens. -/
theorem placedWordsAreFetched : Obligations.PlacedWordsAreFetched := by
  intro s
  refine ⟨fun w h => ⟨?_, decodeTableWord_bus w h, withFetchWord_bus s w h⟩,
    fun w h => ⟨?_, decodeTableWord_cmd w h, withFetchWord_cmd s w⟩⟩
  · rw [withFetchWord_bus s w h, decode_fetchBytes_of_ports _ rfl, portWord_withWord]
  · rw [withFetchWord_cmd s w, decode_fetchBytes_of_busy _ rfl, Firmware.accept_xferType]

/-! ## Selectors past the table (R89 (a), U2) -/

theorem waitValue_past_table (sel : BitVec 3) (h : 5 ≤ sel.toNat) : waitValue sel = none :=
  List.getElem?_eq_none h

theorem hostCommand_past_table (m : XferMode) (b : CmdByte) (sel : BitVec 3) (s : State) (h : 5 ≤ sel.toNat) :
    hostCommand m b sel s = .refused (.selectorOpen sel) := by
  simp [hostCommand, waitValue_past_table sel h]

/-- Settles O54: in each of the four modes the meaning is a host command of the byte's selector. -/
theorem selectorPastTheTableIsRefused : Obligations.SelectorPastTheTableIsRefused := by
  intro b s h
  unfold decodeCmd
  split
  case h_1 | h_2 | h_3 | h_4 => exact hostCommand_past_table _ _ _ s h

/-! ## The stored byte makes no difference to the host's work (R89 (b), R238)

The host's program looks at a command byte only through its mode and its selector, which are operands of their own. -/

/-- The host with another stored command byte. -/
def withByte (fw : Firmware) (b : CmdByte) : Firmware := { fw with xferType := b }

@[simp] theorem withByte_withByte (fw : Firmware) (b c : CmdByte) : withByte (withByte fw b) c = withByte fw c := rfl

/-- The bus command the host issues does not depend on the stored byte. -/
@[simp] theorem word_withByte (fw : Firmware) (b : CmdByte) : (withByte fw b).word = fw.word := rfl

/-- Loading another command byte changes the stored byte only. -/
theorem load_eq_withByte (fw : Firmware) (b c : CmdByte) : fw.load c = withByte (fw.load b) c := by
  unfold Firmware.load
  split <;> rfl

/-- The stored byte can be changed after a choice as well as on each side of it. -/
theorem withByte_ite (P : Prop) [Decidable P] (fw gw : Firmware) (b : CmdByte) :
    withByte (if P then fw else gw) b = if P then withByte fw b else withByte gw b :=
  apply_ite (withByte · b) P fw gw

/-- Counting a sample does not look at the stored byte. -/
theorem finishSample_withByte (fw : Firmware) (b : CmdByte) (p : HostParams) :
    (withByte fw b).finishSample p = withByte (fw.finishSample p) b := by
  unfold Firmware.finishSample
  rw [withByte_ite]
  rfl

/-- The filter does not look at the stored byte. -/
theorem gotSample_withByte (fw : Firmware) (b : CmdByte) (sel : BitVec 3) (wait : Byte) :
    (withByte fw b).gotSample sel wait = withByte (fw.gotSample sel wait) b := by
  unfold Firmware.gotSample
  rw [withByte_ite]
  rfl

/-- After the DAC byte the mode decides, not the stored byte. -/
theorem dispatchAdc_withByte (fw : Firmware) (b : CmdByte) (p : HostParams) (m : XferMode) :
    (withByte fw b).dispatchAdc p m = withByte (fw.dispatchAdc p m) b := by
  cases m with
  | val | idxOrCmp => rfl
  | none => exact finishSample_withByte fw b p

/-- After the low byte the mode decides, not the stored byte. -/
theorem afterLow_withByte (fw : Firmware) (b : CmdByte) (p : HostParams) (m : XferMode) :
    (withByte fw b).afterLow p m = withByte (fw.afterLow p m) b := by
  cases m with
  | idxOrCmp => rfl
  | val | none => exact finishSample_withByte fw b p

/-- Taking the answer to a bus command does not look at the stored byte. -/
theorem advance_withByte (fw : Firmware) (b : CmdByte) (p : HostParams) (m : XferMode) (sel : BitVec 3) (wait : Byte)
    (rdata : ReadData) :
    (withByte fw b).advance p m sel wait rdata = withByte (fw.advance p m sel wait rdata) b := by
  obtain ⟨stage, point, xferType, count, dacVal, adcVal⟩ := fw
  cases point with
  | pollRx | readRx | readDac => rfl
  | pollSample | pollTx =>
    simp only [Firmware.advance, withByte_ite]
    rfl
  | readAdc field => exact gotSample_withByte ⟨stage, .readAdc field, xferType, count, dacVal, rdata⟩ b sel wait
  | send sent =>
    cases sent with
    | dac => exact dispatchAdc_withByte _ b p m
    | adcLow => exact afterLow_withByte _ b p m
    | adcHigh => exact finishSample_withByte _ b p

/-- Two command bytes with one mode and one selector have one effect but for the stored byte. -/
theorem hostCommand_stored_byte (m : XferMode) (b1 b2 : CmdByte) (sel : BitVec 3) (s t : State) (b : CmdByte)
    (h : hostCommand m b1 sel s = .next t) :
    ∃ u, hostCommand m b2 sel s = .next u ∧
      u.withFw (withByte u.fw b) = t.withFw (withByte t.fw b) := by
  unfold hostCommand at h ⊢
  cases hw : waitValue sel with
  | none => simp [hw] at h
  | some wait =>
    rw [hw] at h
    obtain rfl := Host.Outcome.next.inj h
    refine ⟨_, rfl, ?_⟩
    simp [load_eq_withByte s.fw b1 b2, advance_withByte]

/-- Settles O55: in each clause the two bytes share the mode's meaning and the selector. -/
theorem commandByteAliases : Obligations.CommandByteAliases := by
  intro ign1 ign2 sel s t b
  exact ⟨hostCommand_stored_byte .val _ _ sel s t b, hostCommand_stored_byte .idxOrCmp _ _ sel s t b,
    hostCommand_stored_byte .none _ _ sel s t b⟩

end Sys2Proof.Proofs
end

section
/-! The verdicts of T10 on configurations: the integer records, and the physical parameters under every rounding of D24. -/

namespace Sys2Proof.Proofs

open Sys2Proof.Machine

/-! ## The threshold, under every rounding to a nearest integer (R111, D24) -/

/-- The only integer within a half of 0 is 0. -/
theorem int_eq_zero_of_abs_le_half {K : Type} [Field K] [LinearOrder K] [IsStrictOrderedRing K] {n : ℤ}
    (h : |(n : K) - 0| ≤ 1 / 2) : n = 0 := by
  have near : |(n : K)| < 1 := by
    rw [sub_zero] at h
    linarith
  exact Int.abs_lt_one_iff.1 (by exact_mod_cast near)

/-- Without a threshold none is read back, however the rounding treats a half. -/
theorem threshVoltage_eq_zero {round : Rat → Int} (hround : NearestRounding round) (p : Primary) (res : Nat)
    (h : p.thresh = 0) : p.threshVoltage res round = 0 := by
  simp [Primary.threshVoltage, Primary.threshDigital, h, int_eq_zero_of_abs_le_half (hround 0)]

/-- The threshold read back is at most half an output step below the threshold. -/
theorem le_threshVoltage {round : Rat → Int} (hround : NearestRounding round) (p : Primary) (res : Nat)
    (hvref : 0 < p.vref) : p.thresh - p.vref / 2 ^ res / 2 ≤ p.threshVoltage res round := by
  have step_pos : 0 < p.vref / 2 ^ res := by positivity
  have digital : 2 ^ res * p.thresh / p.vref - 1 / 2 ≤ p.threshDigital res round := by
    have := (abs_le.1 (hround (2 ^ res * p.thresh / p.vref))).1
    unfold Primary.threshDigital
    linarith
  calc p.thresh - p.vref / 2 ^ res / 2
      = (2 ^ res * p.thresh / p.vref - 1 / 2) * (p.vref / 2 ^ res) := by field_simp
    _ ≤ p.threshDigital res round * (p.vref / 2 ^ res) := by gcongr
    _ = p.threshVoltage res round := (mul_div_assoc _ _ _).symm

/-! ## The verdicts of T10 -/

/-- A charge time to `Vdd` or above is the domain error (R101, R263). -/
theorem primary_check_domain (p : Primary) (res : Nat) (round : Rat → Int) (hr : 0 < p.r) (hc : 0 < p.c)
    (hvref : 0 < p.vref) (h : p.vdd ≤ p.vref ∨ p.vdd ≤ p.threshVoltage res round) :
    p.check res round = some .domain := by
  have circuit : ¬ (p.r ≤ 0 ∨ p.c ≤ 0 ∨ p.vref ≤ 0) := by simp [hr, hc, hvref]
  rw [Primary.check, if_neg circuit, if_pos h]

/-- A clock that does not run is refused as a count, once the charge times exist (log entry 13). -/
theorem primary_check_count (p : Primary) (res : Nat) (round : Rat → Int) (hr : 0 < p.r) (hc : 0 < p.c)
    (hvref : 0 < p.vref) (h : p.vref < p.vdd) (hthresh : p.threshVoltage res round < p.vdd) (hhz : p.hz ≤ 0) :
    p.check res round = some .count := by
  have circuit : ¬ (p.r ≤ 0 ∨ p.c ≤ 0 ∨ p.vref ≤ 0) := by simp [hr, hc, hvref]
  have times : ¬ (p.vdd ≤ p.vref ∨ p.vdd ≤ p.threshVoltage res round) := by simp [h, hthresh]
  rw [Primary.check, if_neg circuit, if_neg times, if_pos hhz]

/-- The reference parameters, which have no threshold, pass the construction's checks under every rounding of D24. -/
theorem reference_check {round : Rat → Int} (hround : NearestRounding round) (res : Nat) :
    Primary.reference.check res round = none := by
  refine (primary_check_eq_none_iff _ _ _).2 ⟨?circuit, ⟨?vref, ?thresh⟩, ?hz⟩
  case thresh =>
    rw [threshVoltage_eq_zero hround _ _ rfl]
    decide +kernel
  all_goals decide +kernel

/-- T10's verdicts on physical parameters. A threshold of 4 V reads back within half an output step, so above `Vdd`. -/
theorem reference_parameter_verdicts {round : Rat → Int} (hround : NearestRounding round) :
    Primary.reference.check 8 round = none ∧
      ({ Primary.reference with vref := Primary.reference.vdd } : Primary).check 8 round = some .domain ∧
      ({ Primary.reference with thresh := 4 } : Primary).check 8 round = some .domain ∧
      ({ Primary.reference with hz := 0 } : Primary).check 8 round = some .count := by
  obtain ⟨⟨hr, hc, hvref⟩, ⟨hvdd, hthresh⟩, -⟩ := (primary_check_eq_none_iff _ _ _).1 (reference_check hround 8)
  refine ⟨reference_check hround 8, ?vref, ?thresh, ?hz⟩
  case vref => exact primary_check_domain _ 8 round hr hc (hvref.trans hvdd) (.inl le_rfl)
  case thresh =>
    refine primary_check_domain _ 8 round hr hc hvref (.inr (le_trans ?_ (le_threshVoltage hround _ 8 hvref)))
    decide +kernel
  case hz => exact primary_check_count _ 8 round hr hc hvref hvdd hthresh le_rfl

/-- The valid records of T10. The c600 record has the reference sizes and table, so its entries fit as those do. -/
theorem valid_records : Cfg.reference.check = none ∧ Cfg.toy.check = none ∧
    (Cfg.derive 8 9 600 10 true referenceTable).check = none := by
  obtain ⟨-, -, -, -, -, referenceFits⟩ := (cfg_valid_iff _).1 cfg_reference_valid
  have tableFits : (Cfg.derive 8 9 600 10 true referenceTable).tableFits = true := referenceFits
  refine ⟨cfg_reference_valid, by decide, (cfg_valid_iff _).2
    ⟨?widths, ?counts, ?counterHoldsIndex, ?consistent, ?shiftedMax, tableFits⟩⟩
  all_goals decide

/-- The refused records of T10. Each check stops at its item, so that no item after it, the table's least of all, is
evaluated. -/
theorem refused_records :
    (Cfg.derive 8 9 512 10 false referenceTable).check = some .indexRange ∧
    (Cfg.derive 8 9 513 10 false referenceTable).check = some .indexRange ∧
    (Cfg.derive 8 9 255 10 false referenceTable).check = some .shift ∧
    (Cfg.derive 8 17 (2 ^ 17 - 1) 10 false (List.replicate (2 ^ 17) 0)).check = some .width ∧
    (Cfg.derive 2 2 5 3 false [0, 1, 2, 3]).check = some .indexRange ∧
    (Cfg.derive 2 2 6 0 false [0, 1, 2, 3]).check = some .count ∧
    ({ Cfg.reference with table := Cfg.reference.table.take 256 } : Cfg).check = some .table := by
  refine ⟨?top, ?aboveTop, ?shift, ?width, ?toyTop, ?count, ?table⟩
  case width => exact if_pos (.inr (.inr (by decide)))
  all_goals decide +kernel

/-- Settles O58: the integer records are evaluated, the parameters argued for every rounding of D24. -/
theorem configurationVerdicts : Obligations.ConfigurationVerdicts :=
  ⟨valid_records, refused_records, fun _ hround => reference_parameter_verdicts hround⟩

end Sys2Proof.Proofs
end

section
/-! The formulas R100 to R116 over the reals, in closed form: what they determine, and that a table they give is monotone. -/

namespace Sys2Proof.Proofs

open Sys2Proof.Machine

/-! ## The RC timing model (R100 to R107) -/

/-- What the construction's checks say of the circuit (R118 (a)), over the reals. -/
structure Chargeable (p : Primary) : Prop where
  rc_pos : 0 < (p.r : ℝ) * p.c
  vref_pos : 0 < (p.vref : ℝ)
  vref_lt_vdd : (p.vref : ℝ) < p.vdd

theorem chargeable_of_check {p : Primary} {res : Nat} {round : Rat → Int} (h : p.check res round = none) :
    Chargeable p := by
  obtain ⟨⟨hr, hc, hvref⟩, ⟨hvdd, -⟩, -⟩ := (primary_check_eq_none_iff p res round).1 h
  exact ⟨by exact_mod_cast mul_pos hr hc, by exact_mod_cast hvref, by exact_mod_cast hvdd⟩

/-- The time in which the node charges from 0 to `v` (R101). -/
noncomputable def timeTo (p : Primary) (v : ℝ) : ℝ := -(p.r * p.c) * Real.log (1 - v / p.vdd)

/-- From 0, R101 gives one time for a voltage below `Vdd` and none for another. -/
theorem chargeTime_zero_iff {p : Primary} (hp : Chargeable p) (v t : ℝ) :
    p.ChargeTime 0 v t ↔ v < p.vdd ∧ t = timeTo p v := by
  have hvdd : (0 : ℝ) < p.vdd := hp.vref_pos.trans hp.vref_lt_vdd
  simp [Primary.ChargeTime, Primary.IsRC, timeTo, hvdd]

/-- R102 gives exactly one time. -/
theorem chargeTimeMax_iff {p : Primary} (hp : Chargeable p) (t : ℝ) :
    p.ChargeTimeMax t ↔ t = timeTo p p.vref := by
  rw [Primary.ChargeTimeMax, chargeTime_zero_iff hp, and_iff_right hp.vref_lt_vdd]

theorem timeTo_vref_nonneg {p : Primary} (hp : Chargeable p) : 0 ≤ timeTo p p.vref := by
  have hvdd : (0 : ℝ) < p.vdd := hp.vref_pos.trans hp.vref_lt_vdd
  have ratio_lt : (p.vref : ℝ) / p.vdd < 1 := (div_lt_one hvdd).2 hp.vref_lt_vdd
  have ratio_pos : 0 < (p.vref : ℝ) / p.vdd := div_pos hp.vref_pos hvdd
  have log_nonpos : Real.log (1 - p.vref / p.vdd) ≤ 0 := Real.log_nonpos (by linarith) (by linarith)
  rw [timeTo, neg_mul]
  exact neg_nonneg.2 (mul_nonpos_of_nonneg_of_nonpos hp.rc_pos.le log_nonpos)

/-- R106 gives exactly one count. -/
theorem isMaxCnt_iff {p : Primary} (hp : Chargeable p) (n : ℕ) :
    p.IsMaxCnt n ↔ (n : ℤ) = ⌈(p.hz : ℝ) * timeTo p p.vref⌉ := by
  simp [Primary.IsMaxCnt, chargeTimeMax_iff hp]

/-- R107 gives exactly one count (R103: six RC constants). -/
theorem isDischargeCnt_iff (p : Primary) (n : ℕ) :
    p.IsDischargeCnt n ↔ (n : ℤ) = ⌈(p.hz : ℝ) * (6 * (p.r * p.c))⌉ := by
  simp [Primary.IsDischargeCnt, Primary.DrainTimeMax, Primary.IsRC]

/-! ## The table (R111 to R114) -/

/-- R111 gives at most one start index. -/
theorem threshStartIdx_iff {p : Primary} (hp : Chargeable p) (res lutWidth : ℕ) (round : Rat → Int) (idxRound : ℝ → ℤ)
    (j : ℕ) :
    p.ThreshStartIdx res lutWidth round idxRound j ↔ (p.threshVoltage res round : ℝ) < p.vdd ∧
      (j : ℤ) = idxRound ((2 : ℝ) ^ lutWidth * timeTo p (p.threshVoltage res round) / timeTo p p.vref) := by
  simp [Primary.ThreshStartIdx, chargeTimeMax_iff hp, chargeTime_zero_iff hp, and_assoc]

/-- The output scale's reading at table index `i` (R112). -/
noncomputable def rawAt (p : Primary) (res lutWidth start i : ℕ) : ℝ :=
  p.vdd * (1 - Real.exp (-(timeTo p p.vref * (i + start) / 2 ^ lutWidth) / (p.r * p.c))) * (2 ^ res / p.vref)

theorem rawEntry_iff {p : Primary} (hp : Chargeable p) (res lutWidth start i : ℕ) (raw : ℝ) :
    p.RawEntry res lutWidth start i raw ↔ raw = rawAt p res lutWidth start i := by
  simp [Primary.RawEntry, Primary.VoutIs, Primary.IsRC, rawAt, chargeTimeMax_iff hp]

/-- R113 in one formula: the stretch `i / 8` of the low end is 1 from index 8 on. -/
noncomputable def stretchedAt (p : Primary) (res lutWidth start i : ℕ) : ℝ :=
  rawAt p res lutWidth start i * (min i 8 : ℕ) / 8

theorem stretchedAt_of_low {p : Primary} {res lutWidth start i : ℕ} (h : i < 8) :
    stretchedAt p res lutWidth start i = rawAt p res lutWidth start i * i / 8 := by
  rw [stretchedAt, min_eq_left h.le]

theorem stretchedAt_of_high {p : Primary} {res lutWidth start i : ℕ} (h : 8 ≤ i) :
    stretchedAt p res lutWidth start i = rawAt p res lutWidth start i := by
  rw [stretchedAt, min_eq_right h]
  push_cast
  ring

/-- R113 and R114 give exactly one integer for each index. -/
theorem tableEntry_iff {p : Primary} (hp : Chargeable p) (res lutWidth start i e : ℕ) :
    p.TableEntry res lutWidth start i e ↔
      (e : ℤ) = min ⌊stretchedAt p res lutWidth start i⌋ ((2 : ℤ) ^ res - 1) := by
  simp only [Primary.TableEntry, rawEntry_iff hp, exists_eq_left]
  split
  case isTrue low => rw [stretchedAt_of_low low]
  case isFalse high => rw [stretchedAt_of_high (not_lt.1 high)]

/-! ## R116 (a) and (c): monotone and clamped -/

section
variable {p : Primary} {res lutWidth start : ℕ}

/-- The node charges upwards from 0. -/
theorem rawAt_nonneg (hp : Chargeable p) (i : ℕ) : 0 ≤ rawAt p res lutWidth start i := by
  have hvdd : (0 : ℝ) ≤ p.vdd := (hp.vref_pos.trans hp.vref_lt_vdd).le
  have time_nonneg := timeTo_vref_nonneg hp
  have hrc := hp.rc_pos
  have decayed : Real.exp (-(timeTo p p.vref * (i + start) / 2 ^ lutWidth) / (p.r * p.c)) ≤ 1 := by
    rw [Real.exp_le_one_iff, neg_div, neg_nonpos]
    positivity
  have scale : (0 : ℝ) ≤ 2 ^ res / p.vref := div_nonneg (by positivity) hp.vref_pos.le
  exact mul_nonneg (mul_nonneg hvdd (sub_nonneg.2 decayed)) scale

theorem rawAt_mono (hp : Chargeable p) : Monotone (rawAt p res lutWidth start) := by
  intro i k h
  have hvdd : (0 : ℝ) ≤ p.vdd := (hp.vref_pos.trans hp.vref_lt_vdd).le
  have time_nonneg := timeTo_vref_nonneg hp
  have hrc := hp.rc_pos
  have scale : (0 : ℝ) ≤ 2 ^ res / p.vref := div_nonneg (by positivity) hp.vref_pos.le
  unfold rawAt
  gcongr

/-- Both the reading and the stretch grow with the index, across the end of the stretch as well. -/
theorem stretchedAt_mono (hp : Chargeable p) : Monotone (stretchedAt p res lutWidth start) := by
  intro i k h
  unfold stretchedAt
  gcongr
  · exact rawAt_nonneg hp k
  · exact rawAt_mono hp h

theorem tableEntry_mono (hp : Chargeable p) {i k e e' : ℕ} (h : i ≤ k) (he : p.TableEntry res lutWidth start i e)
    (he' : p.TableEntry res lutWidth start k e') : e ≤ e' := by
  rw [tableEntry_iff hp] at he he'
  zify
  rw [he, he']
  exact min_le_min_right _ (Int.floor_mono (stretchedAt_mono hp h))

theorem tableEntry_clamped (hp : Chargeable p) {i e : ℕ} (he : p.TableEntry res lutWidth start i e) :
    e ≤ 2 ^ res - 1 := by
  have clamp : (e : ℤ) ≤ 2 ^ res - 1 := ((tableEntry_iff hp ..).1 he).trans_le (min_le_right _ _)
  have : 1 ≤ 2 ^ res := Nat.one_le_two_pow
  zify [this]
  exact clamp

theorem tableEntry_unique (hp : Chargeable p) {i e e' : ℕ} (he : p.TableEntry res lutWidth start i e)
    (he' : p.TableEntry res lutWidth start i e') : e = e' :=
  le_antisymm (tableEntry_mono hp le_rfl he he') (tableEntry_mono hp le_rfl he' he)

end

/-! ## A configuration the formulas give -/

section
variable {c c' : Cfg} {p : Primary} {round : Rat → Int} {idxRound : ℝ → ℤ}

theorem builtFrom_tableMonotone (h : c.BuiltFrom p round idxRound) : c.tableMonotone = true := by
  obtain ⟨-, -, hcheck, -, -, -, -, -, -, j, -, entries⟩ := h
  exact (tableMonotone_iff c).2 fun i e e' he he' =>
    tableEntry_mono (chargeable_of_check hcheck) (Nat.le_succ i) (entries i e he) (entries (i + 1) e' he')

theorem builtFrom_tableClamped (h : c.BuiltFrom p round idxRound) : c.tableClamped = true := by
  obtain ⟨-, -, hcheck, -, -, -, -, -, -, j, -, entries⟩ := h
  exact (tableClamped_iff c).2 fun i e he => tableEntry_clamped (chargeable_of_check hcheck) (entries i e he)

/-- R116 (d): the table is a function of the parameters, the roundings and the two sizes. -/
theorem builtFrom_table_unique (h : c.BuiltFrom p round idxRound) (h' : c'.BuiltFrom p round idxRound)
    (hres : c'.res = c.res) (hlut : c'.lutWidth = c.lutWidth) : c'.table = c.table := by
  obtain ⟨-, -, hcheck, -, -, -, -, -, hlen, j, hj, entries⟩ := h
  obtain ⟨-, -, -, -, -, -, -, -, hlen', j', hj', entries'⟩ := h'
  have hp := chargeable_of_check hcheck
  rw [hres, hlut] at hj' entries'
  rw [hlut] at hlen'
  have start : j' = j := by
    obtain ⟨-, eq⟩ := (threshStartIdx_iff hp ..).1 hj
    obtain ⟨-, eq'⟩ := (threshStartIdx_iff hp ..).1 hj'
    exact_mod_cast eq'.trans eq.symm
  subst start
  apply List.ext_getElem (hlen'.trans hlen.symm)
  intro i hi' hi
  exact tableEntry_unique hp (entries' i _ (List.getElem?_eq_getElem hi')) (entries i _ (List.getElem?_eq_getElem hi))

/-- The five integers are functions of the parameters and `lut_width` (R106 to R110). -/
theorem builtFrom_integers_unique (h : c.BuiltFrom p round idxRound) (h' : c'.BuiltFrom p round idxRound)
    (hlut : c'.lutWidth = c.lutWidth) :
    c'.maxCnt = c.maxCnt ∧ c'.dischargeCnt = c.dischargeCnt ∧ c'.clkShiftAmt = c.clkShiftAmt ∧
      c'.convPrecision = c.convPrecision ∧ c'.convFactor = c.convFactor := by
  obtain ⟨-, -, hcheck, hmax, hdis, hshift, hprec, hfactor, -⟩ := h
  obtain ⟨-, -, -, hmax', hdis', hshift', hprec', hfactor', -⟩ := h'
  have hp := chargeable_of_check hcheck
  rw [isMaxCnt_iff hp] at hmax hmax'
  rw [isDischargeCnt_iff] at hdis hdis'
  have max : c'.maxCnt = c.maxCnt := by exact_mod_cast hmax'.trans hmax.symm
  have dis : c'.dischargeCnt = c.dischargeCnt := by exact_mod_cast hdis'.trans hdis.symm
  have shift : c'.clkShiftAmt = c.clkShiftAmt := by rw [max] at hshift'; omega
  have prec : c'.convPrecision = c.convPrecision := by omega
  refine ⟨max, dis, shift, prec, ?_⟩
  rw [hfactor', hfactor, Cfg.shiftedMax, Cfg.shiftedMax, hlut, prec, max, shift]

/-- Nothing but `raw_mode` is left open. -/
theorem builtFrom_unique (h : c.BuiltFrom p round idxRound) (h' : c'.BuiltFrom p round idxRound)
    (hres : c'.res = c.res) (hlut : c'.lutWidth = c.lutWidth) : { c' with rawMode := c.rawMode } = c := by
  obtain ⟨max, dis, shift, prec, factor⟩ := builtFrom_integers_unique h h' hlut
  have table := builtFrom_table_unique h h' hres hlut
  rw [hres, hlut, max, dis, shift, prec, factor, table]

end

/-- Settles O59, from the closed form of R112 to R114: one entry per index, growing with it. -/
theorem builtTableIsMonotoneAndUnique : Obligations.BuiltTableIsMonotoneAndUnique := by
  intro c p round idxRound h
  have mono := builtFrom_tableMonotone h
  have clamped := builtFrom_tableClamped h
  refine ⟨⟨mono, clamped⟩, fun i e e' he he' => ⟨?le, ?clamp⟩, fun c' h' hres hlut => builtFrom_unique h h' hres hlut⟩
  case le => exact (tableMonotone_iff c).1 mono i e e' he he'
  case clamp => exact (tableClamped_iff c).1 clamped (i + 1) e' he'

end Sys2Proof.Proofs
end

section
/-! The reference configuration (V1, V2) from its parameters: `Vref` is half of `Vdd`, so that the charge time is `RC · log 2`
and entry `i` is an integer part of `512 · (1 - 2^(-i/512))`, which 512th powers decide in the naturals. -/

namespace Sys2Proof.Proofs

open Sys2Proof.Machine

/-! ## The parameters -/

theorem reference_rc : (Primary.reference.r : ℝ) * Primary.reference.c = 99600 * (893 / 10 ^ 12) := by
  norm_num [Primary.reference]

theorem reference_vref : (Primary.reference.vref : ℝ) = 33 / 20 := by norm_num [Primary.reference]

theorem reference_vdd : (Primary.reference.vdd : ℝ) = 33 / 10 := by norm_num [Primary.reference]

theorem reference_hz : (Primary.reference.hz : ℝ) = 12000000 := by norm_num [Primary.reference]

theorem reference_chargeable : Chargeable Primary.reference := by
  refine ⟨?rc, ?vref, ?vdd⟩
  case rc => rw [reference_rc]; norm_num
  case vref => rw [reference_vref]; norm_num
  case vdd => rw [reference_vref, reference_vdd]; norm_num

theorem reference_timeTo_vref :
    timeTo Primary.reference Primary.reference.vref = 99600 * (893 / 10 ^ 12) * Real.log 2 := by
  have half : (1 : ℝ) - 33 / 20 / (33 / 10) = 2⁻¹ := by norm_num
  rw [timeTo, reference_rc, reference_vref, reference_vdd, half, Real.log_inv, neg_mul_neg]

/-! ## The counts -/

/-- `1067.3136 · log 2` is between 739 and 740. -/
theorem reference_isMaxCnt : Primary.reference.IsMaxCnt 740 := by
  rw [isMaxCnt_iff reference_chargeable, reference_timeTo_vref, reference_hz, eq_comm, Int.ceil_eq_iff]
  have lo := Real.log_two_gt_d9
  have hi := Real.log_two_lt_d9
  constructor <;> norm_num <;> linarith

/-- `6 · 1067.3136` is between 6403 and 6404. -/
theorem reference_isDischargeCnt : Primary.reference.IsDischargeCnt 6404 := by
  rw [isDischargeCnt_iff, reference_rc, reference_hz, eq_comm, Int.ceil_eq_iff]
  norm_num

/-! ## The start index -/

/-- Every admitted rounding keeps 0. -/
theorem indexRounding_zero {idxRound : ℝ → ℤ} (h : IndexRounding idxRound) : idxRound 0 = 0 := by
  obtain floor | ceil | nearest := h
  · rw [floor, Int.floor_zero]
  · rw [ceil, Int.ceil_zero]
  · exact int_eq_zero_of_abs_le_half (nearest 0)

/-- Without a threshold the table starts at index 0 under every rounding of D24. -/
theorem reference_threshStartIdx {round : Rat → Int} {idxRound : ℝ → ℤ} (hround : NearestRounding round)
    (hidx : IndexRounding idxRound) : Primary.reference.ThreshStartIdx 8 9 round idxRound 0 := by
  rw [threshStartIdx_iff reference_chargeable, threshVoltage_eq_zero hround _ _ rfl]
  refine ⟨by norm_num [reference_vdd], ?_⟩
  simp [timeTo, indexRounding_zero hidx]

/-! ## The entries -/

/-- What the node still lacks of `Vdd` at index `i`, as a share: `2^(-i/512)`. -/
noncomputable def lackAt (i : ℕ) : ℝ := Real.exp (-(Real.log 2 * i / 512))

theorem lackAt_pos (i : ℕ) : 0 < lackAt i := Real.exp_pos _

theorem lackAt_pow (i : ℕ) : lackAt i ^ 512 * 2 ^ i = 1 := by
  have two : (2 : ℝ) ^ i = Real.exp (i * Real.log 2) := by
    rw [Real.exp_nat_mul, Real.exp_log (by norm_num)]
  rw [lackAt, ← Real.exp_nat_mul, two, ← Real.exp_add, Real.exp_eq_one_iff]
  push_cast
  ring

theorem reference_rawAt (i : ℕ) : rawAt Primary.reference 8 9 0 i = 512 * (1 - lackAt i) := by
  have exponent : -(99600 * (893 / 10 ^ 12) * Real.log 2 * (i + (0 : ℕ)) / 2 ^ 9) / (99600 * (893 / 10 ^ 12)) =
      -(Real.log 2 * i / 512) := by
    norm_num
    ring
  rw [rawAt, reference_timeTo_vref, reference_rc, exponent, reference_vref, reference_vdd, ← lackAt]
  ring

/-- The stretched reading is the share reached, on a scale of 64 for each index up to the eighth. -/
theorem reference_stretchedAt (i : ℕ) :
    stretchedAt Primary.reference 8 9 0 i = (64 * min i 8 : ℕ) * (1 - lackAt i) := by
  rw [stretchedAt, reference_rawAt]
  push_cast
  ring

/-- The integer part of `scale · (1 - 2^(-i/512))` is `e`, in the naturals: the bounds
`scale - (e + 1) < scale · 2^(-i/512) ≤ scale - e`, raised to the 512th power and multiplied by `2^i`. -/
def readsAs (scale i e : ℕ) : Bool :=
  decide (e ≤ scale ∧ scale ^ 512 ≤ (scale - e) ^ 512 * 2 ^ i ∧
    (scale < e + 1 ∨ (scale - (e + 1)) ^ 512 * 2 ^ i < scale ^ 512))

theorem floor_eq_of_readsAs {scale i e : ℕ} (h : readsAs scale i e = true) : ⌊(scale : ℝ) * (1 - lackAt i)⌋ = e := by
  obtain ⟨le_scale, upper, lower⟩ := of_decide_eq_true h
  have lack_nonneg : 0 ≤ scale * lackAt i := mul_nonneg scale.cast_nonneg (lackAt_pos i).le
  have power : (scale * lackAt i) ^ 512 * 2 ^ i = (scale : ℝ) ^ 512 := by
    rw [mul_pow, mul_assoc, lackAt_pow, mul_one]
  have two_pos : (0 : ℝ) < 2 ^ i := by positivity
  have lack_le : scale * lackAt i ≤ (scale - e : ℕ) := by
    refine le_of_pow_le_pow_left₀ (n := 512) (by norm_num) (Nat.cast_nonneg _) (le_of_mul_le_mul_right ?_ two_pos)
    rw [power]
    exact_mod_cast upper
  have lt_lack : (scale : ℝ) < e + 1 + scale * lackAt i := by
    by_cases past : scale < e + 1
    · have : (scale : ℝ) < e + 1 := by exact_mod_cast past
      linarith
    · have powers : ((scale - (e + 1) : ℕ) : ℝ) < scale * lackAt i := by
        refine lt_of_pow_lt_pow_left₀ 512 lack_nonneg (lt_of_mul_lt_mul_right ?_ two_pos.le)
        rw [power]
        exact_mod_cast lower.resolve_left past
      rw [Nat.cast_sub (not_lt.1 past)] at powers
      push_cast at powers
      linarith
  rw [Nat.cast_sub le_scale] at lack_le
  rw [Int.floor_eq_iff]
  push_cast
  constructor <;> linarith

/-- All 512 entries, in the naturals. -/
theorem referenceTable_readsAs : ∀ entry ∈ referenceTable.zipIdx,
    readsAs (64 * min entry.2 8) entry.2 entry.1 = true := by
  decide +kernel

theorem floor_reference_stretchedAt {i e : ℕ} (h : referenceTable[i]? = some e) :
    ⌊stretchedAt Primary.reference 8 9 0 i⌋ = e := by
  rw [reference_stretchedAt]
  exact floor_eq_of_readsAs (referenceTable_readsAs (e, i) (List.mk_mem_zipIdx_iff_getElem?.2 h))

theorem reference_tableClamped : Cfg.reference.tableClamped = true := by decide +kernel

theorem reference_tableMonotone : Cfg.reference.tableMonotone = true := by decide +kernel

/-- The clamp leaves the entries alone: none is above 255. -/
theorem reference_tableEntry {i e : ℕ} (h : referenceTable[i]? = some e) :
    Primary.reference.TableEntry 8 9 0 i e := by
  have le : e ≤ 2 ^ 8 - 1 := (tableClamped_iff _).1 reference_tableClamped i e h
  rw [tableEntry_iff reference_chargeable, floor_reference_stretchedAt h, min_eq_left]
  omega

/-! ## The configuration -/

section
variable {round : Rat → Int} {idxRound : ℝ → ℤ}

theorem reference_builtFrom (hround : NearestRounding round) (hidx : IndexRounding idxRound) :
    Cfg.reference.BuiltFrom Primary.reference round idxRound := by
  refine ⟨hround, hidx, reference_check hround 8, reference_isMaxCnt, reference_isDischargeCnt, ?shift, ?precision,
    ?factor, ?length, 0, reference_threshStartIdx hround hidx, fun i e h => reference_tableEntry h⟩
  case length => decide +kernel
  all_goals decide

/-- R116 (b): below index 8 the entries are those of the stretch alone, without the clamp. -/
theorem reference_lowEndStretched (hround : NearestRounding round) (hidx : IndexRounding idxRound) :
    Cfg.reference.LowEndStretched Primary.reference round idxRound := by
  refine ⟨0, reference_threshStartIdx hround hidx, fun i e low h => ⟨_, (rawEntry_iff reference_chargeable ..).2 rfl, ?_⟩⟩
  rw [← stretchedAt_of_low low]
  exact (floor_reference_stretchedAt h).symm

end

/-- Settles O60: each part is a lemma above; only the start index and the checks see the two roundings, and not what they do
with a half. -/
theorem referenceConfigurationIsTheFormulas : Obligations.ReferenceConfigurationIsTheFormulas :=
  ⟨reference_isMaxCnt, reference_isDischargeCnt, rfl,
    fun _ _ hround hidx => ⟨reference_builtFrom hround hidx, reference_lowEndStretched hround hidx⟩,
    reference_tableMonotone, reference_tableClamped⟩

end Sys2Proof.Proofs
end

section
/-! The index conversion (R143, R144): on a valid configuration the shifted count `m = max_cnt >> clk_shift_amt` lies strictly
between two neighbouring powers of two, so that it does not divide `2^16`. -/

namespace Sys2Proof.Proofs

open Sys2Proof.Machine

/-! ## The derived integers of a valid configuration (R108 to R110) -/

/-- A positive number lies between the powers of two that its bit length names (R11). -/
theorem two_pow_bitLength {n : Nat} (h : 1 ≤ n) : 2 ^ (bitLength n - 1) ≤ n ∧ n < 2 ^ bitLength n := by
  have hpos : n ≠ 0 := by omega
  simp only [bitLength, if_neg hpos, Nat.add_sub_cancel]
  exact ⟨Nat.log2_self_le hpos, Nat.lt_log2_self⟩

/-- R108 to R110, with the factor's power written out. -/
theorem cfg_consistent_of_valid {c : Cfg} (h : c.Valid) :
    c.clkShiftAmt = bitLength c.maxCnt - c.lutWidth ∧ c.convPrecision + c.lutWidth = 16 ∧
      c.convFactor = 2 ^ 16 / c.shiftedMax := by
  obtain ⟨⟨-, -, hwide⟩, -, -, hconsistent, -, -⟩ := (cfg_valid_iff c).1 h
  simp only [Cfg.consistent, Bool.and_eq_true, decide_eq_true_eq] at hconsistent
  obtain ⟨⟨hshift, hprecision⟩, hfactor⟩ := hconsistent
  have hsum : c.lutWidth + c.convPrecision = 16 := by omega
  rw [← pow_add, hsum] at hfactor
  exact ⟨hshift, by omega, hfactor⟩

/-- R118 (f) excludes the lower power of two, which leaves `m` strictly between two neighbours. -/
theorem cfg_shiftedMax_bounds {c : Cfg} (h : c.Valid) :
    2 ^ (c.lutWidth - 1) < c.shiftedMax ∧ c.shiftedMax < 2 ^ c.lutWidth := by
  obtain ⟨⟨-, hnarrow, -⟩, ⟨hcount, -⟩, hbits, -, hrange, -⟩ := (cfg_valid_iff c).1 h
  obtain ⟨hshift, -, -⟩ := cfg_consistent_of_valid h
  obtain ⟨hlow, hhigh⟩ := two_pow_bitLength hcount
  have hm : c.shiftedMax = c.maxCnt / 2 ^ c.clkShiftAmt := Nat.shiftRight_eq_div_pow ..
  have hlowExp : bitLength c.maxCnt - 1 = (c.lutWidth - 1) + c.clkShiftAmt := by omega
  have hhighExp : bitLength c.maxCnt = c.lutWidth + c.clkShiftAmt := by omega
  rw [hlowExp, pow_add] at hlow
  rw [hhighExp, pow_add] at hhigh
  have hle : 2 ^ (c.lutWidth - 1) ≤ c.shiftedMax := hm ▸ (Nat.le_div_iff_mul_le (Nat.two_pow_pos _)).2 hlow
  exact ⟨lt_of_le_of_ne hle hrange.symm, hm ▸ (Nat.div_lt_iff_lt_mul (Nat.two_pow_pos _)).2 hhigh⟩

/-- A number strictly between two neighbouring powers of two divides no power of two. -/
theorem not_dvd_two_pow {l m n : Nat} (hlow : 2 ^ (l - 1) < m) (hhigh : m < 2 ^ l) : ¬ m ∣ 2 ^ n := by
  rintro hdvd
  obtain ⟨k, -, rfl⟩ := (Nat.dvd_prime_pow Nat.prime_two).1 hdvd
  have := (Nat.pow_lt_pow_iff_right one_lt_two).1 hlow
  have := (Nat.pow_lt_pow_iff_right one_lt_two).1 hhigh
  omega

/-! ## The conversion -/

theorem conv_eq_floor (c : Cfg) (u : Nat) : conv c u = u / 2 ^ c.clkShiftAmt * c.convFactor / 2 ^ c.convPrecision := by
  simp only [conv, Nat.shiftRight_eq_div_pow]

/-- Each of the conversion's three operations is monotone. -/
theorem conv_mono (c : Cfg) {u v : Nat} (h : u ≤ v) : conv c u ≤ conv c v := by
  rw [conv_eq_floor, conv_eq_floor]
  gcongr

/-- At the last count the product falls short of `2^16` by less than `m`, and it does fall short. -/
theorem conv_top_product {c : Cfg} (h : c.Valid) :
    c.shiftedMax * c.convFactor < 2 ^ 16 ∧ 2 ^ 16 < c.shiftedMax * c.convFactor + c.shiftedMax := by
  obtain ⟨hlow, hhigh⟩ := cfg_shiftedMax_bounds h
  obtain ⟨-, -, hfactor⟩ := cfg_consistent_of_valid h
  have hne : c.shiftedMax * c.convFactor ≠ 2 ^ 16 := fun he => not_dvd_two_pow hlow hhigh ⟨_, he.symm⟩
  rw [hfactor] at hne ⊢
  refine ⟨lt_of_le_of_ne (Nat.mul_div_le _ _) hne, ?_⟩
  rw [← Nat.mul_succ]
  exact Nat.lt_mul_div_succ _ ((Nat.zero_le _).trans_lt hlow)

/-- R144: no count of a window has a product of more than 16 bits. -/
theorem conv_product_lt {c : Cfg} (h : c.Valid) {u : Nat} (hu : u ≤ c.maxCnt) :
    u / 2 ^ c.clkShiftAmt * c.convFactor < 2 ^ 16 := by
  calc u / 2 ^ c.clkShiftAmt * c.convFactor
      ≤ c.maxCnt / 2 ^ c.clkShiftAmt * c.convFactor := by gcongr
    _ = c.shiftedMax * c.convFactor := by rw [Cfg.shiftedMax, Nat.shiftRight_eq_div_pow]
    _ < 2 ^ 16 := (conv_top_product h).1

/-- R144: the index of a window's count is an index of the table. -/
theorem conv_lt {c : Cfg} (h : c.Valid) {u : Nat} (hu : u ≤ c.maxCnt) : conv c u < 2 ^ c.lutWidth := by
  obtain ⟨-, hprecision, -⟩ := cfg_consistent_of_valid h
  rw [conv_eq_floor, Nat.div_lt_iff_lt_mul (Nat.two_pow_pos _), ← pow_add, add_comm, hprecision]
  exact conv_product_lt h hu

theorem saturatedIndex_lt (c : Cfg) : saturatedIndex c < 2 ^ c.lutWidth := Nat.sub_lt (Nat.two_pow_pos _) one_pos

/-- R144: the index of the last count, whose two floors lose less than `m` and less than `2^conv_precision`. -/
theorem conv_maxCnt_ge {c : Cfg} (h : c.Valid) :
    2 ^ (c.lutWidth + 16) ≤ (conv c c.maxCnt + 1) * 2 ^ 16 + 2 ^ (2 * c.lutWidth) := by
  obtain ⟨-, hprecision, -⟩ := cfg_consistent_of_valid h
  have hfloor : c.shiftedMax * c.convFactor < (conv c c.maxCnt + 1) * 2 ^ c.convPrecision := by
    rw [conv, ← Cfg.shiftedMax, Nat.shiftRight_eq_div_pow, mul_comm (_ + 1)]
    exact Nat.lt_mul_div_succ _ (Nat.two_pow_pos _)
  have hsum : 2 ^ 16 ≤ (conv c c.maxCnt + 1) * 2 ^ c.convPrecision + 2 ^ c.lutWidth := by
    have := (conv_top_product h).2
    have := (cfg_shiftedMax_bounds h).2
    omega
  calc 2 ^ (c.lutWidth + 16)
      = 2 ^ 16 * 2 ^ c.lutWidth := by rw [pow_add, mul_comm]
    _ ≤ ((conv c c.maxCnt + 1) * 2 ^ c.convPrecision + 2 ^ c.lutWidth) * 2 ^ c.lutWidth := Nat.mul_le_mul_right _ hsum
    _ = (conv c c.maxCnt + 1) * 2 ^ (c.convPrecision + c.lutWidth) + 2 ^ (2 * c.lutWidth) := by ring
    _ = (conv c c.maxCnt + 1) * 2 ^ 16 + 2 ^ (2 * c.lutWidth) := by rw [hprecision]

/-- Settles O18: a right shift is the floor of a division, and the product is that of R144. -/
theorem conversionIsExact : Obligations.ConversionIsExact :=
  ⟨conv_eq_floor, fun _ _ hvalid hu => (conv_product_lt hvalid hu).le⟩

/-- Settles O19. The product's bound is strict because `m` does not divide `2^16`. -/
theorem conversionFitsTheIndex : Obligations.ConversionFitsTheIndex := by
  intro c hvalid
  refine ⟨fun u hu => ⟨?product, Nat.le_sub_one_of_lt (conv_lt hvalid hu)⟩, fun u v => conv_mono c, conv_maxCnt_ge hvalid⟩
  rw [Nat.shiftRight_eq_div_pow]
  exact Nat.le_sub_one_of_lt (conv_product_lt hvalid hu)

end Sys2Proof.Proofs
end

section
/-! The engine's tick, register by register (R130 to R150), and the engine's invariant (R151), which it keeps. -/

namespace Sys2Proof.Proofs

open Sys2Proof.Machine

/-! ## The engine's registers after a tick -/

theorem engine_hit_of_discharging {e : Engine} (h : e.phase = .discharging) : e.hit = false := by simp [Engine.hit, h]

theorem engine_neverTrip_of_discharging {c : Cfg} {e : Engine} (h : e.phase = .discharging) : e.neverTrip c = false := by
  simp [Engine.neverTrip, Engine.timeout, h]

/-- Each register after a tick in terms of the snapshot's flags: the done tick and the timeout tick alone change the phase,
and the two latches alone write the sample. -/
theorem engine_tick_eq (c : Cfg) (e : Engine) (i : Inputs) : e.tick c i =
    { phase :=
        if e.doneOut c then (if i.start then .charging else .discharging)
        else if e.timeout c then .discharging else e.phase
      upCnt := if e.timeout c then 0 else if e.phase = .charging then e.upCnt + 1 else e.upCnt
      downCnt := if e.doneOut c then 0 else if e.phase = .discharging then e.downCnt + 1 else e.downCnt
      sync0 := i.sense
      sync1 := e.sync0
      zeroRun := if e.timeout c then 0 else if e.phase = .charging then e.nextRun else e.zeroRun
      latched := if e.doneOut c then false else e.latched || e.hit || e.neverTrip c
      avail := if e.doneOut c && i.start then false else e.avail || e.hit || e.neverTrip c
      rawIndex := if e.hit then conv c e.upCnt else if e.neverTrip c then saturatedIndex c else e.rawIndex
      rawCnt := if e.hit then e.upCnt else if e.neverTrip c then c.maxCnt else e.rawCnt } := by
  rcases e.tick_cases c i with h | h | h | h | h | h | h | h
  case inl | inr.inl | inr.inr.inl =>
    obtain ⟨hphase, h⟩ := h
    simp [h, hphase, Engine.doneOut, Engine.timeout, engine_hit_of_discharging, engine_neverTrip_of_discharging, Engine.shift]
  all_goals simp [h, Engine.doneOut, Engine.timeout, Engine.neverTrip, Engine.shift, Engine.latch]

/-! ## The engine's invariant (R151) -/

theorem engine_nextRun_le (e : Engine) : e.nextRun ≤ 2 := by
  unfold Engine.nextRun
  split_ifs <;> omega

/-- A reading that is no hit leaves a pending run short of two low readings. -/
theorem engine_nextRun_le_one {e : Engine} (hphase : e.phase = .charging) (hhit : e.hit = false)
    (hlatched : e.latched = false) (hrun : e.zeroRun ≤ 1) : e.nextRun ≤ 1 := by
  have hmiss : e.sync1 = false → e.zeroRun ≠ 1 := fun hlow hone => by
    simp [(Engine.hit_iff e).2 ⟨hphase, hlow, hone, hlatched⟩] at hhit
  unfold Engine.nextRun Engine.cmp
  split_ifs with hhigh
  · exact Nat.zero_le 1
  · have := hmiss (by simpa using hhigh)
    omega

section
variable {c : Cfg} {e : Engine} (i : Inputs)

/-- R151 (a): a counter below its last value has room for one more tick, and both latches write values within the ranges. -/
theorem engine_tick_bounded (hvalid : c.Valid) (h : e.Bounded c) : (e.tick c i).Bounded c := by
  obtain ⟨hup, hdown, hrun, hindex, hcount⟩ := h
  rw [engine_tick_eq]
  refine ⟨?up, ?down, ?run, ?index, ?count⟩ <;> dsimp only
  case up =>
    split_ifs with hlast hphase
    · exact Nat.zero_le _
    · have : e.upCnt ≠ c.maxCnt := fun h => hlast ((Engine.timeout_iff c e).2 ⟨hphase, h⟩)
      omega
    · exact hup
  case down =>
    split_ifs with hlast hphase
    · exact Nat.zero_le _
    · have : e.downCnt ≠ c.dischargeCnt := fun h => hlast ((Engine.doneOut_iff c e).2 ⟨hphase, h⟩)
      omega
    · exact hdown
  case run =>
    split_ifs
    · exact Nat.zero_le _
    · exact engine_nextRun_le e
    · exact hrun
  case index =>
    split_ifs
    · exact conv_lt hvalid hup
    · exact saturatedIndex_lt c
    · exact hindex
  case count =>
    split_ifs
    · exact hup
    · exact le_rfl
    · exact hcount

/-- R151 (b): each phase is left with its own counters at 0, and the other phase's counters rest. -/
theorem engine_tick_phaseClean (h : e.PhaseClean) : (e.tick c i).PhaseClean := by
  obtain ⟨hdischarging, hcharging⟩ := h
  rw [engine_tick_eq]
  cases hphase : e.phase with
  | discharging =>
    obtain ⟨hup, hrun⟩ := hdischarging hphase
    cases e.doneOut c <;> simp [Engine.PhaseClean, hphase, hup, hrun, Engine.timeout_iff]
  | charging =>
    have hdown := hcharging hphase
    cases e.timeout c <;> simp [Engine.PhaseClean, hphase, hdown, Engine.doneOut_iff]

/-- R151 (c): a window starts with neither flag set, and a latch sets both. -/
theorem engine_tick_availIsLatched (h : e.AvailIsLatched) : (e.tick c i).AvailIsLatched := by
  rw [engine_tick_eq]
  cases hphase : e.phase with
  | discharging =>
    cases e.doneOut c <;> simp +contextual [Engine.AvailIsLatched, hphase, Engine.timeout_iff]
  | charging => simp [Engine.AvailIsLatched, hphase, h hphase, Engine.doneOut_iff]

/-- R151 (d): while a window runs on, only a hit latches, and it latches the conversion of the count. -/
theorem engine_tick_indexOfCount (h : e.IndexOfCount c) : (e.tick c i).IndexOfCount c := by
  rw [engine_tick_eq]
  cases hphase : e.phase with
  | discharging => simp +contextual [Engine.IndexOfCount, hphase, Engine.timeout_iff]
  | charging =>
    cases hhit : e.hit with
    | true => simp [Engine.IndexOfCount]
    | false =>
      cases hlast : e.timeout c
      · have hrests : e.latched = true → e.rawIndex = conv c e.rawCnt := fun hlatched => h hlatched hphase
        simpa [Engine.IndexOfCount, hphase, hhit, hlast, Engine.doneOut_iff, Engine.neverTrip] using hrests
      · simp [Engine.IndexOfCount, hphase, Engine.doneOut_iff]

/-- While nothing is latched, a reading that is no hit leaves the run short of two. -/
theorem engine_tick_runPending (hclean : e.PhaseClean) (h : e.RunPending) : (e.tick c i).RunPending := by
  rw [engine_tick_eq]
  cases hphase : e.phase with
  | discharging =>
    obtain ⟨-, hrun⟩ := hclean.1 hphase
    simp [Engine.RunPending, hphase, hrun, Engine.timeout_iff]
  | charging =>
    have hmiss : e.latched = false → e.hit = false → e.nextRun ≤ 1 := fun hlatched hhit =>
      engine_nextRun_le_one hphase hhit hlatched (h hphase hlatched)
    simp +contextual [Engine.RunPending, hphase, hmiss, Engine.doneOut_iff]

theorem engine_tick_inv (hvalid : c.Valid) (h : e.Inv c) : (e.tick c i).Inv c := by
  obtain ⟨hbounded, hclean, havail, hindex, hpending⟩ := h
  exact ⟨engine_tick_bounded i hvalid hbounded, engine_tick_phaseClean i hclean, engine_tick_availIsLatched i havail,
    engine_tick_indexOfCount i hindex, engine_tick_runPending i hclean hpending⟩

end

end Sys2Proof.Proofs
end

section
/-! The invariants of the status block and of the host, and with the engine's that of the machine, which every step keeps. -/

namespace Sys2Proof.Proofs

open Sys2Proof.Machine

/-! ## The status block's invariant (R37 to R39) -/

/-- R175: under the invariant's bound the code is `res` bits wide, as a truncated index or as an entry of the table. -/
theorem engine_valOut_lt {c : Cfg} {e : Engine} (hvalid : c.Valid) (hindex : e.rawIndex < 2 ^ c.lutWidth) :
    e.valOut c < 2 ^ c.res := by
  obtain ⟨-, -, -, -, -, hfits⟩ := (cfg_valid_iff c).1 hvalid
  simp only [Cfg.tableFits, Bool.and_eq_true, decide_eq_true_eq, List.all_eq_true] at hfits
  obtain ⟨hlength, hentries⟩ := hfits
  unfold Engine.valOut
  split_ifs
  · exact Nat.mod_lt _ (Nat.two_pow_pos _)
  · have hin : e.rawIndex < c.table.length := hlength ▸ hindex
    rw [List.getD_eq_getElem _ _ hin]
    exact hentries _ (List.getElem_mem hin)

/-- The copies are written from the engine's own bounded registers, and by nothing else. -/
theorem status_tick_inv {c : Cfg} {e : Engine} {st : Status} (hvalid : c.Valid) (he : e.Bounded c) (hst : st.Inv c)
    (dacIn : Byte) (clearRdy : Bool) : (st.tick c e dacIn clearRdy).Inv c := by
  obtain ⟨-, -, -, hindex, hcount⟩ := he
  cases hstrobe : e.strobe c with
  | true =>
    rw [Status.tick_strobe _ _ _ _ _ hstrobe]
    exact ⟨engine_valOut_lt hvalid hindex, hindex, hcount⟩
  | false =>
    cases clearRdy with
    | true =>
      rw [Status.tick_clear _ _ _ _ hstrobe]
      exact hst
    | false =>
      rw [Status.tick_idle _ _ _ _ hstrobe]
      exact hst

/-! ## The host's invariant (R240, R245) -/

section
variable {p : HostParams} {fw : Firmware}

theorem firmware_listening_iff : fw.listening = true ↔ fw.point = .pollRx ∨ fw.point = .readRx := by
  cases h : fw.point <;> simp [Firmware.listening, h]

/-- A stage that allows a point in which a byte is received is IDLE (R233). -/
theorem stage_idle_of_receiving {stage : Stage} {point : Point} (h : stage.allows point = true)
    (hpoint : point = .pollRx ∨ point = .readRx) : stage = .idle := by
  rcases hpoint with rfl | rfl
  all_goals cases stage with
    | idle => rfl
    | loadDac | loadAdc | waitOrFinish => cases h

/-- The host has counted no sample while it receives a byte. -/
theorem firmware_count_of_listening (h : fw.Inv p) (hl : fw.listening = true) : fw.count = 0 := by
  obtain ⟨hpoint, -, hidle⟩ := h
  exact hidle (stage_idle_of_receiving hpoint (firmware_listening_iff.1 hl))

/-- A move within a stage. -/
theorem firmware_inv_at (h : fw.Inv p) {point : Point} (hpoint : fw.stage.allows point = true) :
    ({ fw with point := point } : Firmware).Inv p := ⟨hpoint, h.2⟩

theorem firmware_accept_inv (b : CmdByte) (h : fw.count = 0) : (fw.accept b).Inv p :=
  ⟨rfl, h ▸ Nat.succ_pos _, fun _ => h⟩

theorem firmware_load_inv (b : CmdByte) (h : fw.Inv p) : (fw.load b).Inv p := by
  unfold Firmware.load
  split_ifs with hl
  · exact firmware_accept_inv b (firmware_count_of_listening h hl)
  · exact h

theorem firmware_startSample_inv (h : fw.count < p.burstLen) : fw.startSample.Inv p := ⟨rfl, h, nofun⟩

/-- R240: the count goes back to 0 before it reaches a burst's length. -/
theorem firmware_finishSample_inv (h : fw.count < p.burstLen) : (fw.finishSample p).Inv p := by
  unfold Firmware.finishSample
  split_ifs with hlast
  · exact ⟨rfl, Nat.succ_pos _, fun _ => rfl⟩
  · exact ⟨rfl, by dsimp only; omega, nofun⟩

theorem firmware_dispatchAdc_inv (m : XferMode) (h : fw.count < p.burstLen) : (fw.dispatchAdc p m).Inv p := by
  cases m with
  | val | idxOrCmp => exact ⟨rfl, h, nofun⟩
  | none => exact firmware_finishSample_inv h

theorem firmware_afterLow_inv (m : XferMode) (h : fw.Inv p) (hstage : fw.stage = .loadAdc) : (fw.afterLow p m).Inv p := by
  cases m with
  | idxOrCmp => exact firmware_inv_at h (by rw [hstage]; rfl)
  | val | none => exact firmware_finishSample_inv h.2.1

/-- A sample is waited for in IDLE and in WAIT_OR_FINISH, at the same three points. -/
theorem allows_readDac_of_pollSample {stage : Stage} (h : stage.allows .pollSample = true) :
    stage.allows .readDac = true := by cases stage <;> exact h

theorem allows_readAdc_of_readDac {stage : Stage} (h : stage.allows .readDac = true) (f : AdcField) :
    stage.allows (.readAdc f) = true := by cases stage <;> exact h

/-- A byte is polled for and sent in one stage. -/
theorem allows_send_of_pollTx {stage : Stage} {b : SendByte} (h : stage.allows (.pollTx b) = true) :
    stage.allows (.send b) = true := by cases stage <;> cases b <;> exact h

theorem stage_of_allows_send_adcLow {stage : Stage} (h : stage.allows (.send .adcLow) = true) : stage = .loadAdc := by
  cases stage with
  | loadAdc => rfl
  | idle | loadDac | waitOrFinish => cases h

theorem firmware_gotSample_inv (h : fw.Inv p) (sel : BitVec 3) (wait : Byte) : (fw.gotSample sel wait).Inv p := by
  unfold Firmware.gotSample
  split_ifs with hfilter
  · simp only [Bool.and_eq_true, decide_eq_true_eq] at hfilter
    exact firmware_inv_at h (by rw [hfilter.1]; rfl)
  · exact firmware_startSample_inv h.2.1

/-- Each answer takes the host to a point of its own stage, or through a transition above. -/
theorem firmware_advance_inv (h : fw.Inv p) (m : XferMode) (sel : BitVec 3) (wait : Byte) (rdata : ReadData) :
    (fw.advance p m sel wait rdata).Inv p := by
  have ⟨hallows, hcount, hidle⟩ := h
  cases hpoint : fw.point <;> rw [hpoint] at hallows <;> simp only [Firmware.advance, hpoint]
  case pollRx | readRx => exact h
  case pollSample =>
    split_ifs
    · exact firmware_inv_at h (allows_readDac_of_pollSample hallows)
    · exact h
  case readDac => exact ⟨allows_readAdc_of_readDac hallows _, hcount, hidle⟩
  case readAdc f =>
    refine firmware_gotSample_inv ?_ sel wait
    exact ⟨hallows, hcount, hidle⟩
  case pollTx b =>
    split_ifs
    · exact firmware_inv_at h (allows_send_of_pollTx hallows)
    · exact h
  case send b =>
    cases b with
    | dac => exact firmware_dispatchAdc_inv m hcount
    | adcLow => exact firmware_afterLow_inv m h (stage_of_allows_send_adcLow hallows)
    | adcHigh => exact firmware_finishSample_inv hcount

end

theorem hostSawReady_inv {s : State} (h : s.fw.Inv s.params) : s.hostSawReady.Inv s.params := by
  unfold State.hostSawReady
  split_ifs with hpolled
  · simp only [Bool.and_eq_true, decide_eq_true_eq] at hpolled
    obtain ⟨⟨-, hpoint⟩, -⟩ := hpolled
    exact firmware_inv_at h (by rw [stage_idle_of_receiving h.1 (.inl hpoint)]; rfl)
  · exact h

theorem hostTookByte_inv {s : State} (h : s.fw.Inv s.params) : s.hostTookByte.Inv s.params := by
  unfold State.hostTookByte
  split_ifs with hread
  · simp only [Bool.and_eq_true, decide_eq_true_eq] at hread
    exact firmware_accept_inv _ (firmware_count_of_listening h (firmware_listening_iff.2 (.inr hread.2)))
  · exact h

/-! ## The machine's invariant -/

/-- What an operation can do to the host: nothing, one of the two moves of the receive primitive, or the answer to the bus
command of a command byte in hand. -/
theorem exec_next_fw (i : Instr) (s t : State) (h : exec i s = .next t) :
    t.fw = s.fw ∨ t.fw = s.hostSawReady ∨ t.fw = s.hostTookByte ∨
      ∃ b m sel wait rdata, t.fw = (s.fw.load b).advance s.params m sel wait rdata := by
  cases i
  case rdUartRxRdy => exact .inr (.inl (Host.Outcome.next.inj h ▸ rfl))
  case rdUartRxData => exact .inr (.inr (.inl (Host.Outcome.next.inj h ▸ rfl)))
  case xferVal _ sel | xferIdxOrCmp1 _ sel | xferIdxOrCmp2 _ sel | xferNone _ sel =>
    rcases hostCommand_cases _ _ sel s with ⟨-, hrefused⟩ | ⟨wait, -, hnext⟩
    · cases hrefused.symm.trans h
    · obtain rfl := Host.Outcome.next.inj (hnext.symm.trans h)
      exact .inr (.inr (.inr ⟨_, _, _, _, _, rfl⟩))
  all_goals exact .inl (Host.Outcome.next.inj h ▸ rfl)

theorem exec_keeps_firmware_inv (i : Instr) (s t : State) (h : exec i s = .next t) (hfw : s.fw.Inv s.params) :
    t.fw.Inv s.params := by
  rcases exec_next_fw i s t h with hsame | hready | htook | ⟨b, m, sel, wait, rdata, hanswer⟩
  · rwa [hsame]
  · rw [hready]
    exact hostSawReady_inv hfw
  · rw [htook]
    exact hostTookByte_inv hfw
  · rw [hanswer]
    exact firmware_advance_inv (firmware_load_inv b hfw) m sel wait rdata

/-- The block's two parts keep their invariants in every tick, the reset tick included. -/
theorem tick_keeps_block_inv (s : State) (b : BusEffect) (h : s.Inv) :
    (s.tick b).engine.Inv s.cfg ∧ (s.tick b).status.Inv s.cfg := by
  obtain ⟨hvalid, hengine, hstatus, -⟩ := h
  simp only [State.tick_engine, State.tick_status]
  cases s.pins.rst with
  | true => exact ⟨engine_reset_inv s.cfg, status_reset_inv s.cfg⟩
  | false => exact ⟨engine_tick_inv s.pins hvalid hengine, status_tick_inv hvalid hengine.1 hstatus _ _⟩

/-- Settles O41: a step is an operation, which is one tick of the block with one move of the host. -/
theorem stepKeepsTheInvariant : Obligations.StepKeepsTheInvariant := by
  intro s t hinv hstep
  obtain ⟨hvalid, i, -, hexec⟩ := step_next s t hstep
  have hfw := exec_keeps_firmware_inv i s t hexec hinv.2.2.2
  obtain ⟨b, fw, rfl⟩ := exec_next_is_tick i s t hexec
  obtain ⟨hengine, hstatus⟩ := tick_keeps_block_inv s b hinv
  exact ⟨hvalid, hengine, hstatus, hfw⟩

end Sys2Proof.Proofs
end

section
/-! One tick of the engine under any operation (R130 to R151): the statements about `exec` of a well-formed operation, each the
engine's registers of `engine_tick_eq` in one case. -/

namespace Sys2Proof.Proofs

open Sys2Proof.Machine

/-! ## A tick under any operation -/

/-- A well-formed operation without reset is one tick of the engine, with the outputs of the snapshot. -/
theorem exec_engine_tick (i : Instr) (s : State) (hw : WellFormed i = true) (hr : s.pins.rst = false) :
    ∃ t, exec i s = .next t ∧ t.engine = s.engine.tick s.cfg s.pins ∧ s.EngineOutputs t ∧ s.Advanced t := by
  obtain ⟨b, fw, h⟩ := exec_wellFormed i s hw
  exact ⟨_, h, by simp [hr], ⟨rfl, rfl, rfl, rfl⟩, ⟨rfl, rfl, rfl, rfl, rfl⟩⟩

/-! ## The engine's cases -/

/-- A run of one low reading is a low reading after a high one, or the window's first. -/
theorem engine_nextRun_eq_one_iff (e : Engine) : e.nextRun = 1 ↔ e.sync1 = false ∧ e.zeroRun = 0 := by
  unfold Engine.nextRun Engine.cmp
  cases e.sync1 with
  | true => simp
  | false =>
    have hcapped : min (e.zeroRun + 1) 2 = 1 ↔ e.zeroRun = 0 := by omega
    simpa using hcapped

section
variable {c : Cfg} {e : Engine} (i : Inputs)

/-- R133: a discharge tick before the last. -/
theorem engine_tick_discharging (hphase : e.phase = .discharging) (hlast : e.downCnt ≠ c.dischargeCnt) :
    e.tick c i = { e with downCnt := e.downCnt + 1, sync0 := i.sense, sync1 := e.sync0 } := by
  simp [engine_tick_eq, hphase, hlast, Engine.doneOut_iff, Engine.timeout_iff, engine_hit_of_discharging,
    engine_neverTrip_of_discharging]

/-- R134, R135: the done tick. -/
theorem engine_tick_done (hphase : e.phase = .discharging) (hlast : e.downCnt = c.dischargeCnt) :
    e.tick c i = { e with
      downCnt := 0, latched := false, sync0 := i.sense, sync1 := e.sync0,
      phase := if i.start then .charging else .discharging, avail := if i.start then false else e.avail } := by
  simp [engine_tick_eq, hphase, hlast, Engine.doneOut_iff, Engine.timeout_iff, engine_hit_of_discharging,
    engine_neverTrip_of_discharging]

/-- R138, R140, R142: a charge tick before the last. -/
theorem engine_tick_charging (hphase : e.phase = .charging) (hlast : e.upCnt ≠ c.maxCnt) :
    e.tick c i = { e with
      upCnt := e.upCnt + 1, zeroRun := e.nextRun, sync0 := i.sense, sync1 := e.sync0,
      latched := e.latched || e.hit, avail := e.avail || e.hit,
      rawIndex := if e.hit then conv c e.upCnt else e.rawIndex, rawCnt := if e.hit then e.upCnt else e.rawCnt } := by
  have hno : e.neverTrip c = false := by simp [Engine.neverTrip, Engine.timeout, hlast]
  simp [engine_tick_eq, hphase, hlast, hno, Engine.doneOut_iff, Engine.timeout_iff]

/-- R139, R142, R146: the timeout tick, which leaves a latched sample. -/
theorem engine_tick_timeout (hphase : e.phase = .charging) (hlast : e.upCnt = c.maxCnt) :
    e.tick c i = { e with
      phase := .discharging, upCnt := 0, zeroRun := 0, sync0 := i.sense, sync1 := e.sync0,
      latched := true, avail := e.avail || !e.latched,
      rawIndex := if e.hit then conv c e.upCnt else if e.latched then e.rawIndex else saturatedIndex c,
      rawCnt := if e.hit then e.upCnt else if e.latched then e.rawCnt else c.maxCnt } := by
  have htimeout : e.timeout c = true := (Engine.timeout_iff c e).2 ⟨hphase, hlast⟩
  have hdone : e.doneOut c = false := by simp [Engine.doneOut, hphase]
  cases hlatched : e.latched with
  | true =>
    have hhit : e.hit = false := by simp [Engine.hit, hlatched]
    simp [engine_tick_eq, hphase, hlatched, htimeout, hdone, hhit, Engine.neverTrip]
  | false =>
    cases hhit : e.hit <;> simp [engine_tick_eq, hphase, hlatched, htimeout, hdone, hhit, Engine.neverTrip]

end

/-! ## The statements -/

/-- Settles O10: the outputs are the snapshot's, and the registers those of the done tick. -/
theorem doneTickEndsTheDischarge : Obligations.DoneTickEndsTheDischarge := by
  intro i s hw hr hphase hlast
  obtain ⟨t, ht, hengine, ⟨-, hdone, -, -⟩, -⟩ := exec_engine_tick i s hw hr
  refine ⟨t, ht, hdone.trans ((Engine.doneOut_iff _ _).2 ⟨hphase, hlast⟩), ?_⟩
  rw [hengine, engine_tick_done _ hphase hlast]

/-- Settles O13, by the phase and the reading. -/
theorem debounceCountsLowReadings : Obligations.DebounceCountsLowReadings := by
  intro i s hw hr
  obtain ⟨t, ht, hengine, -, -⟩ := exec_engine_tick i s hw hr
  refine ⟨t, ht, fun hphase hlast hlow => ?low, fun hphase hlast hhigh => ?high, fun hphase => ?rests⟩
  case low => simp [hengine, engine_tick_charging _ hphase hlast, Engine.nextRun, Engine.cmp, hlow]
  case high => simp [hengine, engine_tick_charging _ hphase hlast, Engine.nextRun, Engine.cmp, hhigh]
  case rests => simp [hengine, engine_tick_eq, hphase, Engine.timeout_iff]

/-- Settles O14: the premises are those of a hit, whose four writes do not depend on the count. -/
theorem hitLatchesTheCount : Obligations.HitLatchesTheCount := by
  intro i s hw hr hphase hlow hrun hlatched
  obtain ⟨t, ht, hengine, -, -⟩ := exec_engine_tick i s hw hr
  have hhit : s.engine.hit = true := (Engine.hit_iff _).2 ⟨hphase, hlow, hrun, hlatched⟩
  refine ⟨t, ht, ?_⟩
  simp [hengine, engine_tick_eq, hhit, hphase, Engine.doneOut_iff]

/-- Settles O15: the timeout tick of an engine with nothing latched and no hit. -/
theorem neverTripForcesTheTopIndex : Obligations.NeverTripForcesTheTopIndex := by
  intro i s hw hr hphase hlast hlatched hmiss
  obtain ⟨t, ht, hengine, -, -⟩ := exec_engine_tick i s hw hr
  have hhit : s.engine.hit = false := Bool.eq_false_iff.2 fun h => by
    obtain ⟨-, hlow, hrun, -⟩ := (Engine.hit_iff _).1 h
    exact hmiss ⟨hlow, hrun⟩
  refine ⟨t, ht, ?_⟩
  simp [hengine, engine_tick_timeout _ hphase hlast, hhit, hlatched, saturatedIndex]

/-- Settles O16: without either latch the registers' equations leave only the done tick's writes. -/
theorem onlyALatchWritesTheSample : Obligations.OnlyALatchWritesTheSample := by
  intro i s hw hr hhit hno
  obtain ⟨t, ht, hengine, -, -⟩ := exec_engine_tick i s hw hr
  refine ⟨t, ht, ?_⟩
  simp +contextual [hengine, engine_tick_eq, hhit, hno]

/-- Settles O17: two ticks, the second with the pins the first has brought in. -/
theorem synchronizerDelaysTwoTicks : Obligations.SynchronizerDelaysTwoTicks := by
  intro i j s hwi hwj hr hr2
  obtain ⟨t, ht, hengine, -, -, -, hpins, -⟩ := exec_engine_tick i s hwi hr
  obtain ⟨u, hu, hengine2, -, -⟩ := exec_engine_tick j t hwj (hpins ▸ hr2)
  refine ⟨t, u, ht, hu, ?_⟩
  simp [hengine2, hengine, engine_tick_eq]

/-- Settles O20. Only a charge tick before the last is followed by a hit: a window entered just now has no run of low
readings, and neither has the reset engine. -/
theorem hitNeedsTwoLowReadings : Obligations.HitNeedsTwoLowReadings := by
  intro i s t hclean hexec hhit
  obtain ⟨b, fw, rfl⟩ := exec_next_is_tick i s t hexec
  rw [State.withFw_engine, State.tick_engine] at hhit ⊢
  cases hr : s.pins.rst with
  | true => simp [hr, Engine.reset, Engine.hit] at hhit
  | false =>
    simp only [hr, Bool.false_eq_true, if_false] at hhit ⊢
    obtain ⟨hcharging, hlow, hrun, hlatched⟩ := (Engine.hit_iff _).1 hhit
    cases hphase : s.engine.phase with
    | discharging =>
      obtain ⟨-, hclean⟩ := hclean.1 hphase
      simp [engine_tick_eq, hphase, hclean, Engine.timeout_iff] at hrun
    | charging =>
      have hlast : s.engine.upCnt ≠ s.cfg.maxCnt := fun h => by
        simp [engine_tick_timeout _ hphase h] at hcharging
      rw [engine_tick_charging _ hphase hlast] at hlow hrun hlatched ⊢
      simp only [Bool.or_eq_false_iff] at hlatched
      obtain ⟨hread, hzero⟩ := (engine_nextRun_eq_one_iff s.engine).1 hrun
      exact ⟨rfl, hread, hzero, hlatched.1, hlow, rfl⟩

/-- Settles O22. `avail` and `latched` agree in a window, and the timeout tick latches where they are low. -/
theorem everyWindowEndsWithASample : Obligations.EveryWindowEndsWithASample := by
  intro i s hw hinv hr htimeout
  obtain ⟨-, ⟨-, hclean, havail, -, -⟩, -, -⟩ := hinv
  obtain ⟨hphase, hlast⟩ := (Engine.timeout_iff _ _).1 htimeout
  obtain ⟨t, ht, hengine, -, -⟩ := exec_engine_tick i s hw hr
  refine ⟨t, ht, ?_⟩
  simp [hengine, engine_tick_timeout _ hphase hlast, hclean.2 hphase, havail hphase]

end Sys2Proof.Proofs
end

section
/-! Runs of the engine (R130 to R142): how long a discharge and a charge window last, and when a crossing is latched, whoever
drives the bus. -/

namespace Sys2Proof.Proofs

open Sys2Proof.Machine

/-! ## One more tick -/

/-- A step drives the engine outputs of its snapshot (R179). -/
theorem step_engineOutputs (s t : State) (h : step s = .next t) : s.EngineOutputs t := by
  obtain ⟨-, i, -, hexec⟩ := step_next s t h
  obtain ⟨b, fw, rfl⟩ := exec_next_is_tick i s t hexec
  exact ⟨rfl, rfl, rfl, rfl⟩

/-- What holds after `n` ticks without reset holds on, in another form, after one more tick under the inputs that stand `n`
places down the list. -/
theorem afterRun_tick {s : State} {n : Nat} {P Q : State → Prop} (hs : s.InputsSatisfy (n + 1) Inputs.NoReset)
    (h : s.AfterRun n P)
    (hQ : ∀ u t i, P u → (s.pins :: s.stim)[n]? = some i → t.cfg = u.cfg → t.engine = u.engine.tick u.cfg i →
      u.EngineOutputs t → Q t) :
    s.AfterRun (n + 1) Q := by
  refine ⟨fun t ht => ?_, State.run_of_ports (n + 1) s⟩
  obtain ⟨u, hu, hstep⟩ := State.run_last n s t ht
  obtain ⟨hknown, hall⟩ := hs
  have hlen : n < (s.pins :: s.stim).length := by simpa using hknown
  have hi : (s.pins :: s.stim)[n]? = some (s.pins :: s.stim)[n] := List.getElem?_eq_getElem hlen
  have hnoReset : Inputs.NoReset (s.pins :: s.stim)[n] :=
    hall _ (List.mem_iff_getElem?.2 ⟨n, by rw [List.getElem?_take_of_lt n.lt_succ_self, hi]⟩)
  obtain ⟨hengine, hcfg, -⟩ := step_is_engine_tick u t hstep
  rw [State.run_pins n s u _ hu hi, if_neg (by rw [hnoReset]; exact Bool.false_ne_true)] at hengine
  exact hQ u t _ (h.1 u hu) hi hcfg hengine (step_engineOutputs u t hstep)

/-- A run of no ticks ends where it begins. -/
theorem afterRun_zero {s : State} {P : State → Prop} (h : P s) : s.AfterRun 0 P :=
  ⟨fun t ht => by cases ht; exact h, fun _ _ => ⟨s, rfl⟩⟩

/-! ## A discharge and a charge window -/

/-- The engine is in a discharge that has gone through `n` ticks. -/
def DischargedFor (n : Nat) (e : Engine) : Prop := e.phase = .discharging ∧ e.downCnt = n

/-- The engine is in a charge window that has gone through `n` ticks. -/
def ChargedFor (n : Nat) (e : Engine) : Prop := e.phase = .charging ∧ e.upCnt = n

theorem dischargedFor_tick {c : Cfg} {e : Engine} {n : Nat} (i : Inputs) (h : DischargedFor n e)
    (hn : n < c.dischargeCnt) : DischargedFor (n + 1) (e.tick c i) := by
  obtain ⟨hphase, rfl⟩ := h
  rw [engine_tick_discharging i hphase hn.ne]
  exact ⟨hphase, rfl⟩

theorem chargedFor_tick {c : Cfg} {e : Engine} {n : Nat} (i : Inputs) (h : ChargedFor n e) (hn : n < c.maxCnt) :
    ChargedFor (n + 1) (e.tick c i) := by
  obtain ⟨hphase, rfl⟩ := h
  rw [engine_tick_charging i hphase hn.ne]
  exact ⟨hphase, rfl⟩

/-- R133 over a run: the n-th tick of a discharge has `down_cnt = n`. -/
theorem discharge_run {s : State} {n : Nat} (h0 : DischargedFor 0 s.engine) (hn : n ≤ s.cfg.dischargeCnt)
    (hs : s.InputsSatisfy n Inputs.NoReset) : s.AfterRun n fun t => t.cfg = s.cfg ∧ DischargedFor n t.engine := by
  have := State.afterRun_engine Inputs.NoReset (fun _ => id) DischargedFor n 0 s hs
    (fun k e i _ hk h _ => dischargedFor_tick i h (by omega)) h0
  rwa [Nat.zero_add] at this

/-- R138 over a run: the n-th tick of a charge window has `up_cnt = n`. -/
theorem charge_run {s : State} {n : Nat} (h0 : ChargedFor 0 s.engine) (hn : n ≤ s.cfg.maxCnt)
    (hs : s.InputsSatisfy n Inputs.NoReset) : s.AfterRun n fun t => t.cfg = s.cfg ∧ ChargedFor n t.engine := by
  have := State.afterRun_engine Inputs.NoReset (fun _ => id) ChargedFor n 0 s hs
    (fun k e i _ hk h _ => chargedFor_tick i h (by omega)) h0
  rwa [Nat.zero_add] at this

/-- Settles O9. The run to the last tick is `discharge_run`, and one more tick is the done tick. -/
theorem dischargeTicksCountUp : Obligations.DischargeTicksCountUp := by
  refine ⟨fun i s hw hr hphase hlast => ?tick, fun s n _ hphase hzero hn hs => ?run,
    fun s last _ hphase hzero hs hi => ?done⟩
  case tick =>
    obtain ⟨t, ht, hengine, -, -⟩ := exec_engine_tick i s hw hr
    exact ⟨t, ht, by rw [hengine, engine_tick_discharging _ hphase hlast]⟩
  case run => exact (discharge_run ⟨hphase, hzero⟩ hn hs).imp fun t h => h.2
  case done =>
    have hrun := discharge_run ⟨hphase, hzero⟩ le_rfl (hs.mono (Nat.le_succ _))
    refine afterRun_tick hs hrun fun u t i hu hi' _ hengine hout => ?_
    obtain ⟨hcfg, hphase, hlast⟩ := hu
    rw [← hcfg] at hlast
    obtain rfl : last = i := Option.some.inj (hi.symm.trans hi')
    obtain ⟨-, hdone, -, -⟩ := hout
    refine ⟨hdone.trans ((Engine.doneOut_iff _ _).2 ⟨hphase, hlast⟩), ?_⟩
    simp +contextual [hengine, engine_tick_done _ hphase hlast]

/-- Settles O11: one tick before the last, and `charge_run`. -/
theorem chargeTicksCountUp : Obligations.ChargeTicksCountUp := by
  refine ⟨fun i s hw hr hphase hlast => ?tick, fun s k _ hphase hzero hk hs => ?run⟩
  case tick =>
    obtain ⟨t, ht, hengine, ⟨hcharge, -, -, -⟩, -⟩ := exec_engine_tick i s hw hr
    refine ⟨t, ht, by simpa [Engine.chargeOut, hphase] using hcharge, ?_⟩
    simp [hengine, engine_tick_charging _ hphase hlast, hphase]
  case run => exact (charge_run ⟨hphase, hzero⟩ hk hs).imp fun t h => h.2

/-- Settles O12. The run to the last tick is `charge_run`, and one more tick is the timeout. -/
theorem timeoutEndsTheWindow : Obligations.TimeoutEndsTheWindow := by
  refine ⟨fun i s hw hr hphase hlast => ?tick, fun s _ hphase hzero hs => ⟨fun k hk => ?run, ?timeout⟩⟩
  case tick =>
    obtain ⟨t, ht, hengine, -, -⟩ := exec_engine_tick i s hw hr
    refine ⟨t, ht, ?_⟩
    simp [hengine, engine_tick_timeout _ hphase hlast]
  case run => exact (charge_run ⟨hphase, hzero⟩ hk (hs.mono (by omega))).imp fun t h => h.2.1
  case timeout =>
    have hrun := charge_run ⟨hphase, hzero⟩ le_rfl (hs.mono (Nat.le_succ _))
    refine afterRun_tick hs hrun fun u t i hu _ _ hengine _ => ?_
    obtain ⟨hcfg, hphase, hlast⟩ := hu
    rw [← hcfg] at hlast
    simp [hengine, engine_tick_timeout _ hphase hlast]

/-! ## A crossing (R142, R304) -/

/-- The engine is at count `n` of a charge window that has latched nothing, with these two synchronizer stages. -/
def Watching (n : Nat) (sync0 sync1 : Bool) (e : Engine) : Prop :=
  ChargedFor n e ∧ e.latched = false ∧ e.sync0 = sync0 ∧ e.sync1 = sync1

/-- A tick that reads high latches nothing and ends any run of low readings. -/
theorem watching_tick_high {c : Cfg} {e : Engine} {n : Nat} {sync0 : Bool} {i : Inputs} (h : Watching n sync0 true e)
    (hlow : i.sense = false) (hn : n < c.maxCnt) :
    Watching (n + 1) false sync0 (e.tick c i) ∧ (e.tick c i).zeroRun = 0 := by
  obtain ⟨⟨hphase, rfl⟩, hlatched, rfl, hhigh⟩ := h
  rw [engine_tick_charging i hphase hn.ne]
  simp [Watching, ChargedFor, hphase, hlatched, Engine.hit, Engine.nextRun, Engine.cmp, hhigh, hlow]

/-- The first low reading latches nothing and begins a run. -/
theorem watching_tick_firstLow {c : Cfg} {e : Engine} {n : Nat} {sync0 : Bool} (i : Inputs)
    (h : Watching n sync0 false e) (hrun : e.zeroRun = 0) (hn : n < c.maxCnt) :
    Watching (n + 1) i.sense sync0 (e.tick c i) ∧ (e.tick c i).zeroRun = 1 := by
  obtain ⟨⟨hphase, rfl⟩, hlatched, rfl, hlow⟩ := h
  rw [engine_tick_charging i hphase hn.ne]
  simp [Watching, ChargedFor, hphase, hlatched, Engine.hit, Engine.nextRun, Engine.cmp, hlow, hrun]

/-- The second low reading is the hit, whichever tick of the window it is. -/
theorem watching_tick_secondLow {c : Cfg} {e : Engine} {n : Nat} {sync0 : Bool} (i : Inputs)
    (h : Watching n sync0 false e) (hrun : e.zeroRun = 1) :
    (e.tick c i).latched = true ∧ (e.tick c i).avail = true ∧ (e.tick c i).rawCnt = n ∧
      (e.tick c i).rawIndex = conv c n := by
  obtain ⟨⟨hphase, rfl⟩, hlatched, -, hlow⟩ := h
  have hhit : e.hit = true := (Engine.hit_iff e).2 ⟨hphase, hlow, hrun, hlatched⟩
  simp [engine_tick_eq, hphase, hhit, Engine.doneOut_iff]

/-- Settles O46: two ticks read the high levels still in the synchronizer, and the next two the two low levels. -/
theorem crossingIsLatchedThreeTicksLater : Obligations.CrossingIsLatchedThreeTicksLater := by
  intro s next rest hphase hlatched hsync0 hsync1 hroom hstim hlow hlow2 hs
  have at0 : s.AfterRun 0 fun t => t.cfg = s.cfg ∧ Watching s.engine.upCnt true true t.engine :=
    afterRun_zero ⟨rfl, ⟨hphase, rfl⟩, hlatched, hsync0, hsync1⟩
  have at1 : s.AfterRun 1 fun t => t.cfg = s.cfg ∧ Watching (s.engine.upCnt + 1) false true t.engine := by
    refine afterRun_tick (hs.mono (by omega)) at0 fun u t i ⟨hcfg, hu⟩ hi htcfg hengine _ => ⟨htcfg.trans hcfg, ?_⟩
    obtain rfl : s.pins = i := by simpa using hi
    rw [hengine, hcfg]
    exact (watching_tick_high hu hlow (by omega)).1
  have at2 : s.AfterRun 2 fun t =>
      t.cfg = s.cfg ∧ Watching (s.engine.upCnt + 2) false false t.engine ∧ t.engine.zeroRun = 0 := by
    refine afterRun_tick (hs.mono (by omega)) at1 fun u t i ⟨hcfg, hu⟩ hi htcfg hengine _ => ⟨htcfg.trans hcfg, ?_⟩
    obtain rfl : next = i := by simpa [hstim] using hi
    rw [hengine, hcfg]
    exact watching_tick_high hu hlow2 (by omega)
  have at3 : s.AfterRun 3 fun t =>
      t.cfg = s.cfg ∧ (∃ sync0, Watching (s.engine.upCnt + 3) sync0 false t.engine) ∧ t.engine.zeroRun = 1 := by
    refine afterRun_tick (hs.mono (by omega)) at2 fun u t i ⟨hcfg, hu, hrun⟩ _ htcfg hengine _ => ⟨htcfg.trans hcfg, ?_⟩
    have hlast : s.engine.upCnt + 2 < s.cfg.maxCnt := by omega
    obtain ⟨hwatching, hone⟩ := watching_tick_firstLow i hu hrun hlast
    rw [hengine, hcfg]
    exact ⟨⟨_, hwatching⟩, hone⟩
  refine ⟨at3.imp fun t ⟨_, ⟨_, _, hlatched, _⟩, _⟩ => hlatched, ?_⟩
  refine afterRun_tick hs at3 fun u t i ⟨hcfg, ⟨sync0, hu⟩, hrun⟩ _ _ hengine _ => ?_
  rw [hengine, ← hcfg]
  exact watching_tick_secondLow i hu hrun

end Sys2Proof.Proofs
end

section
/-! The sample output (R170 to R177): the code is a function of the latched index, an available sample rests until the next
conversion starts, and a window that never trips gives the largest code. -/

namespace Sys2Proof.Proofs

open Sys2Proof.Machine

/-! ## The code of an index (R175) -/

theorem engine_valOut_raw {c : Cfg} {e : Engine} (hraw : c.rawMode = true) : e.valOut c = e.rawIndex % 2 ^ c.res := by
  simp [Engine.valOut, hraw]

theorem engine_valOut_of_entry {c : Cfg} {e : Engine} {v : Nat} (htable : c.rawMode = false)
    (hentry : c.table[e.rawIndex]? = some v) : e.valOut c = v := by
  simp [Engine.valOut, htable, hentry]

theorem engine_valOut_congr (c : Cfg) {e f : Engine} (hindex : e.rawIndex = f.rawIndex) : e.valOut c = f.valOut c := by
  simp [Engine.valOut, hindex]

/-- The low `n` bits of `m` ones are as many ones as fit both. -/
theorem ones_mod_two_pow (m n : Nat) : (2 ^ m - 1) % 2 ^ n = 2 ^ min m n - 1 :=
  Nat.eq_of_testBit_eq fun k => by simp [Nat.testBit_mod_two_pow, Nat.testBit_two_pow_sub_one, Bool.and_comm]

/-- R118 (g): an index of `lut_width` bits has an entry in a valid configuration's table, so the lookup is that entry. -/
theorem table_valOut {c : Cfg} {e : Engine} (hvalid : c.Valid) (htable : c.rawMode = false)
    (hindex : e.rawIndex < 2 ^ c.lutWidth) : c.table[e.rawIndex]? = some (e.valOut c) := by
  obtain ⟨-, -, -, -, -, hfits⟩ := (cfg_valid_iff c).1 hvalid
  simp only [Cfg.tableFits, Bool.and_eq_true, decide_eq_true_eq] at hfits
  have hentry := List.getElem?_eq_getElem (hfits.1 ▸ hindex : e.rawIndex < c.table.length)
  exact engine_valOut_of_entry htable hentry ▸ hentry

/-! ## The engine's outputs under any operation (R179) -/

/-- A well-formed operation drives the engine outputs of its snapshot, in the reset tick too (R290). -/
theorem exec_engineOutputs (i : Instr) (s : State) (hw : WellFormed i = true) :
    ∃ t, exec i s = .next t ∧ s.EngineOutputs t := by
  obtain ⟨b, fw, h⟩ := exec_wellFormed i s hw
  exact ⟨_, h, rfl, rfl, rfl, rfl⟩

/-! ## An available sample, and a forced one -/

section
variable {c : Cfg} {e : Engine}

/-- R151 (c): a window whose sample is available has latched it, which stops both latches. -/
theorem engine_no_latch_of_avail (hinv : e.AvailIsLatched) (havail : e.avail = true) :
    e.hit = false ∧ e.neverTrip c = false := by
  cases hphase : e.phase with
  | discharging => exact ⟨engine_hit_of_discharging hphase, engine_neverTrip_of_discharging hphase⟩
  | charging =>
    have hlatched : e.latched = true := hinv hphase ▸ havail
    simp [Engine.hit, Engine.neverTrip, hlatched]

/-- R146: a window that never trips leaves CHARGING with the largest index as its sample. -/
theorem engine_tick_neverTrip (i : Inputs) (hno : e.neverTrip c = true) :
    (e.tick c i).phase = .discharging ∧ (e.tick c i).avail = true ∧ (e.tick c i).rawIndex = saturatedIndex c := by
  obtain ⟨htimeout, hlatched, hhit⟩ := (Engine.neverTrip_iff c e).1 hno
  obtain ⟨hphase, hlast⟩ := (Engine.timeout_iff c e).1 htimeout
  simp [engine_tick_timeout i hphase hlast, hlatched, hhit]

end

/-! ## The statements -/

/-- Settles O23: each output in the snapshot's registers. -/
theorem outputsAreOfTheSnapshot : Obligations.OutputsAreOfTheSnapshot := by
  intro i s hw
  obtain ⟨t, ht, hcharge, hdone, havail, hval⟩ := exec_engineOutputs i s hw
  refine ⟨t, ht, ?charge, ?done, havail, fun hraw => ?raw, fun htable e hentry => ?table⟩
  case charge => simp [hcharge, Engine.chargeOut]
  case done => rw [hdone, Engine.doneOut_iff]
  case raw => rw [hval, engine_valOut_raw hraw]
  case table => rw [hval, engine_valOut_of_entry htable hentry]

/-- Settles O24, by the invariant's bound on the index. -/
theorem codeFitsItsWidth : Obligations.CodeFitsItsWidth := by
  intro i s hw hinv
  obtain ⟨hvalid, ⟨⟨-, -, -, hindex, -⟩, -⟩, -⟩ := hinv
  obtain ⟨t, ht, -, -, -, hval⟩ := exec_engineOutputs i s hw
  exact ⟨t, ht, hval ▸ engine_valOut_lt hvalid hindex, fun htable => hval ▸ table_valOut hvalid htable hindex⟩

/-- Settles O21: with neither latch the sample rests, and only the done tick with `start` clears `avail`. -/
theorem availableSampleIsStable : Obligations.AvailableSampleIsStable := by
  intro i s hw hinv hr havail
  obtain ⟨-, ⟨-, -, hagree, -, -⟩, -, -⟩ := hinv
  obtain ⟨hhit, hno⟩ := engine_no_latch_of_avail (c := s.cfg) hagree havail
  obtain ⟨t, ht, hengine, -, hcfg, -⟩ := exec_engine_tick i s hw hr
  have hindex : t.engine.rawIndex = s.engine.rawIndex := by simp [hengine, engine_tick_eq, hhit, hno]
  refine ⟨t, ht, hindex, ?count, hcfg ▸ engine_valOut_congr _ hindex, ?avail⟩
  case count => simp [hengine, engine_tick_eq, hhit, hno]
  case avail => simp [hengine, engine_tick_eq, havail]

/-- Settles O25: the first tick leaves the largest index behind, and the second drives its code. -/
theorem neverTripGivesTheTopCode : Obligations.NeverTripGivesTheTopCode := by
  intro i j s hwi hwj hvalid hr hno
  obtain ⟨t, ht, hengine, -, hcfg, -⟩ := exec_engine_tick i s hwi hr
  obtain ⟨hphase, havail, hindex⟩ := engine_tick_neverTrip s.pins hno
  rw [← hengine] at hphase havail hindex
  obtain ⟨u, hu, hcharge, -, huavail, hval⟩ := exec_engineOutputs j t hwj
  rw [hcfg] at hval
  have hcode : s.cfg.rawMode = true → u.out.val = 2 ^ min s.cfg.lutWidth s.cfg.res - 1 := fun hraw => by
    rw [hval, engine_valOut_raw hraw, hindex, saturatedIndex, ones_mod_two_pow]
  refine ⟨t, u, ht, hu, huavail.trans havail, ?charge, fun htable => ?table, fun hraw hle => ?narrow,
    fun hraw hlt => ?wide⟩
  case charge => simp [hcharge, Engine.chargeOut, hphase]
  case table =>
    have hentry := table_valOut (e := t.engine) hvalid htable (hindex ▸ saturatedIndex_lt s.cfg)
    rwa [hindex, ← hval] at hentry
  case narrow => rw [hcode hraw, Nat.min_eq_right hle]
  case wide => rw [hcode hraw, Nat.min_eq_left hlt.le]

end Sys2Proof.Proofs
end

section
/-! The register bus (R200 to R217): the command a BUS word's fields name, the effect of each command, and the tick of a bus
command, which is the block's own tick under the effect that the multiplexer gives the word. -/

namespace Sys2Proof.Proofs

open Sys2Proof.Machine

/-! ## The words of a command (R85, D21) -/

/-- The mask of a read or a write keeps the fields `en`, `we` and `addr` of a word. -/
theorem and_commandMask (w : BusWord) : w &&& 0x3F00 = busWord (BusWord.en w) (BusWord.we w) (BusWord.addr w) 0 := by
  have hmask : (0x3F00 : BusWord) = busWord true true 15 0 := rfl
  have ha : BusWord.addr w &&& 15 = BusWord.addr w := BitVec.and_allOnes
  have hd : BusWord.wdata w &&& 0 = 0 := BitVec.and_zero
  conv_lhs => rw [← busWord_fields w, hmask, busWord_and, Bool.and_true, Bool.and_true, ha, hd]

/-- A word that the mask takes to a command's fixed bits is that command, with the word's own write data. -/
theorem decodeBus_of_masked {w : BusWord} (we : Bool) (a : RegAddr) (h : w &&& 0x3F00 = busWord true we a 0) :
    decodeBus w = if we then decodeWrite a (BusWord.wdata w) else decodeRead a (BusWord.wdata w) := by
  rw [and_commandMask] at h
  have hen : BusWord.en w = true := by simpa using congrArg BusWord.en h
  have hwe : BusWord.we w = we := by simpa using congrArg BusWord.we h
  have haddr : BusWord.addr w = a := by simpa using congrArg BusWord.addr h
  simp [decodeBus, hen, hwe, haddr]

/-! ## Register values (R83) -/

theorem zextBit_eq (b : Bool) : zextBit b = if b then 1 else 0 := by
  cases b <;> rfl

theorem zextByte_toNat (b : Byte) : (zextByte b).toNat = b.toNat := by
  rw [zextByte, BitVec.toNat_setWidth_of_le (by decide)]

theorem zextReg_toNat (n : Nat) : (zextReg n).toNat = n % 2 ^ 16 := BitVec.toNat_ofNat n 16

/-! ## What the multiplexer drives (R217) -/

section
variable (s : State) {w : BusWord}

theorem busEffect_of_nop (hen : BusWord.en w = false) : s.busEffect w = s.idleEffect := by
  simp [State.busEffect, hen]

theorem busEffect_of_write (hen : BusWord.en w = true) (hwe : BusWord.we w = true) :
    s.busEffect w = if BusWord.addr w = 3 then s.transmitEffect (BusWord.wdata w) else s.idleEffect := by
  simp [State.busEffect, hen, hwe]

/-- A read drives no write strobe, and pulses its bit of `ser_rd` if its address is a serial one (R205 to R207, R209). -/
theorem busEffect_strobes_of_read (hen : BusWord.en w = true) (hwe : BusWord.we w = false) :
    (s.busEffect w).txWe = false ∧
      (s.busEffect w).serRd = if (BusWord.addr w).toNat < 3 then BitVec.twoPow 3 (BusWord.addr w).toNat else 0 := by
  unfold State.busEffect
  rw [hen, hwe]
  generalize BusWord.addr w = a
  fin_cases a <;> exact ⟨rfl, rfl⟩

variable (w)

/-- R209: a bit of `ser_rd` pulses on a read of its address only. -/
theorem busEffect_serRd_iff {a : Nat} (ha : a < 3) :
    (s.busEffect w).serRd.getLsbD a = true ↔
      BusWord.en w = true ∧ BusWord.we w = false ∧ (BusWord.addr w).toNat = a := by
  cases hen : BusWord.en w with
  | false => simp [busEffect_of_nop s hen]
  | true =>
    cases hwe : BusWord.we w with
    | true =>
      rw [busEffect_of_write s hen hwe]
      split_ifs <;> simp
    | false =>
      rw [(busEffect_strobes_of_read s hen hwe).2]
      split_ifs with hserial
      · simp [BitVec.getLsbD_twoPow, hserial]
      · simp
        omega

/-- R208: a write of address 3 drives `tx_we`, and no other word does. -/
theorem busEffect_txWe_iff :
    (s.busEffect w).txWe = true ↔ BusWord.en w = true ∧ BusWord.we w = true ∧ (BusWord.addr w).toNat = 3 := by
  cases hen : BusWord.en w with
  | false => simp [busEffect_of_nop s hen]
  | true =>
    cases hwe : BusWord.we w with
    | true =>
      have haddr : (BusWord.addr w).toNat = 3 ↔ BusWord.addr w = 3 := BitVec.toNat_inj (y := 3)
      rw [busEffect_of_write s hen hwe, haddr]
      split_ifs with h
      · simp [h]
      · simpa using h
    | false => simp [(busEffect_strobes_of_read s hen hwe).1]

/-- R208: with `tx_we` goes the word's write data. -/
theorem busEffect_txData (h : (s.busEffect w).txWe = true) : (s.busEffect w).txData = BusWord.wdata w := by
  obtain ⟨hen, hwe, haddr⟩ := (busEffect_txWe_iff s w).1 h
  have haddr : BusWord.addr w = 3 := BitVec.eq_of_toNat_eq haddr
  rw [busEffect_of_write s hen hwe, if_pos haddr, State.transmitEffect_txData]

end

/-- The bus command a host issues asks for the clearing read at its poll for a sample only (R232). -/
theorem busEffect_word_clearRdy (s : State) (fw : Firmware) :
    (s.busEffect fw.word).clearRdy = true ↔ fw.point = .pollSample := by
  unfold Firmware.word
  cases fw.point with
  | readAdc f => cases f <;> simp [State.busEffect, readWord, AdcField.addr]
  | _ => simp [State.busEffect, readWord, writeWord]

/-! ## The tick of a bus command -/

/-- A BUS word's command is the block's tick under the multiplexer's effect; of the rest only the host may move. -/
theorem exec_decodeBus (w : BusWord) (s : State) :
    ∃ fw, exec (decodeBus w) s = .next ((s.tick (s.busEffect w)).withFw fw) := by
  unfold decodeBus State.busEffect
  cases BusWord.en w with
  | false => exact ⟨_, rfl⟩
  | true =>
    cases BusWord.we w with
    | true | false =>
      generalize BusWord.addr w = a
      fin_cases a <;> exact ⟨_, rfl⟩

/-- A tick whose bus command asks for no clearing read touches nothing but by the block's own step. -/
theorem tick_plain (s : State) {b : BusEffect} (h : b.clearRdy = false) : s.PlainTick (s.tick b) := by
  refine ⟨⟨rfl, ?_⟩, ⟨rfl, rfl, rfl, rfl⟩, ⟨rfl, rfl, rfl, rfl, rfl⟩, rfl⟩
  rw [State.tick_status, h]

/-! ## The tick of a command byte -/

/-- A host with a byte in hand keeps its point when the byte is loaded again; a listening one accepts the byte, and polls. -/
theorem load_point_eq_pollSample_iff (fw : Firmware) (b : CmdByte) :
    (fw.load b).point = .pollSample ↔ fw.point = .pollSample ∨ fw.listening = true := by
  unfold Firmware.load
  cases fw.listening <;> simp

/-- A host with a byte in hand issues the same command whichever byte that is. -/
theorem load_word_of_not_listening {fw : Firmware} (h : fw.listening = false) (b : CmdByte) :
    (fw.load b).word = fw.word := by
  simp [Firmware.load, h, Firmware.word, Firmware.byteOf]

/-- With a selector in the table a command byte is the block's tick under the host's own bus command. -/
theorem hostCommand_of_selector (m : XferMode) (b : CmdByte) (sel : BitVec 3) (s : State)
    (hsel : selectorInTable sel = true) :
    ∃ fw, hostCommand m b sel s = .next ((s.tick (s.busEffect (s.fw.load b).word)).withFw fw) := by
  rw [← waitValue_isSome] at hsel
  obtain ⟨hnone, -⟩ | ⟨wait, -, hnext⟩ := hostCommand_cases m b sel s
  · simp [hnone] at hsel
  · exact ⟨_, hnext⟩

end Sys2Proof.Proofs
end

section
/-! The status block and the register bus (R190 to R217), command by command. -/

namespace Sys2Proof.Proofs

open Sys2Proof.Machine

/-! ## The multiplexer and the commands -/

/-- Settles O36, by the tick of a BUS word's command. -/
theorem multiplexerEqualsTheCommands : Obligations.MultiplexerEqualsTheCommands := by
  intro w s
  obtain ⟨fw, hexec⟩ := exec_decodeBus w s
  exact ⟨_, hexec, rfl⟩

/-- Settles O37: the strobes of a word's tick are the multiplexer's. -/
theorem strobesOnlyOnSerialCommands : Obligations.StrobesOnlyOnSerialCommands := by
  intro w s
  obtain ⟨fw, hexec⟩ := exec_decodeBus w s
  exact ⟨_, hexec, fun a ha => busEffect_serRd_iff s w ha, busEffect_txWe_iff s w, busEffect_txData s w⟩

/-- Settles O53: the command byte and the bus command tick the block under one effect, that of the host's word. -/
theorem hostTickIsItsBusCommand : Obligations.HostTickIsItsBusCommand := by
  intro ign sel s i hi hsel hl
  obtain ⟨m, b, hcommand⟩ : ∃ m b, exec i s = hostCommand m b sel s := by
    fin_cases hi <;> exact ⟨_, _, rfl⟩
  obtain ⟨fw, hhost⟩ := hostCommand_of_selector m b sel s hsel
  rw [load_word_of_not_listening hl] at hhost
  obtain ⟨fw', hbus⟩ := exec_decodeBus s.fw.word s
  exact ⟨_, _, hcommand.trans hhost, hbus, rfl⟩

/-! ## The flag and the copies -/

/-- Settles O26: whatever the effect of the tick's command, the strobe captures. -/
theorem strobeCapturesTheSample : Obligations.StrobeCapturesTheSample := by
  intro i s hw hr hphase hlast havail
  have hstrobe := (Engine.strobe_iff s.cfg s.engine).2 ⟨hphase, hlast, havail⟩
  obtain ⟨b, fw, hexec⟩ := exec_wellFormed i s hw
  refine ⟨_, hexec, ?_⟩
  simp [hr, Status.tick_strobe _ _ _ _ _ hstrobe]

/-- The operations whose tick reads address 4: RD_SAMPLE_RDY, and a command byte while the host polls for a sample, which it
also does in the tick in which it accepts the byte (R192, R232, R233). -/
def PollsTheFlag (i : Instr) (s : State) : Prop :=
  (∃ wd, i = .rdSampleRdy wd) ∨ (i.format = .cmd ∧ (s.fw.point = .pollSample ∨ s.fw.listening = true))

/-- The tick of a command byte asks for the clearing read exactly if the host polls for a sample in it. -/
theorem hostCommand_clearRdy (m : XferMode) (b : CmdByte) (sel : BitVec 3) (s : State)
    (hsel : selectorInTable sel = true) :
    ∃ eff fw, hostCommand m b sel s = .next ((s.tick eff).withFw fw) ∧
      (eff.clearRdy = true ↔ s.fw.point = .pollSample ∨ s.fw.listening = true) := by
  obtain ⟨fw, hnext⟩ := hostCommand_of_selector m b sel s hsel
  exact ⟨_, fw, hnext, (busEffect_word_clearRdy s _).trans (load_point_eq_pollSample_iff _ b)⟩

/-- A well-formed operation is one tick of the block, with the clearing read exactly if it reads address 4. -/
theorem exec_clearRdy (i : Instr) (s : State) (hw : WellFormed i = true) :
    ∃ eff fw, exec i s = .next ((s.tick eff).withFw fw) ∧ (eff.clearRdy = true ↔ PollsTheFlag i s) := by
  cases i
  case xferVal ign sel | xferIdxOrCmp1 ign sel | xferIdxOrCmp2 ign sel | xferNone ign sel =>
    obtain ⟨eff, fw, hnext, hclear⟩ := hostCommand_clearRdy _ _ sel s hw
    exact ⟨eff, fw, hnext, by simpa [PollsTheFlag, Instr.format] using hclear⟩
  all_goals exact ⟨_, _, rfl, by simp [PollsTheFlag, Instr.format]⟩

/-- Settles O27: without a strobe the status block's tick is the clearing read or nothing. -/
theorem noStrobeLeavesTheCopies : Obligations.NoStrobeLeavesTheCopies := by
  intro i s hw hr hstrobe
  obtain ⟨eff, fw, hexec, hclear⟩ := exec_clearRdy i s hw
  refine ⟨_, hexec, fun hpolls => ?clears, fun hpolls => ?stays⟩
  case clears => simp [hr, hclear.2 hpolls, Status.tick_clear _ _ _ _ hstrobe]
  case stays => simp [hr, Bool.eq_false_iff.2 (mt hclear.1 hpolls), Status.tick_idle _ _ _ _ hstrobe]

/-- Settles O28: the read is a plain tick of the block but for the clear, which loses to the strobe and to reset. -/
theorem readingSampleRdyReturnsAndClears : Obligations.ReadingSampleRdyReturnsAndClears := by
  refine ⟨fun w hword => decodeBus_of_masked false 4 hword, fun wd s => ?_⟩
  refine ⟨_, rfl, zextBit_eq _, rfl, rfl, fun hr hstrobe => ?captures, fun hr hstrobe => ?clears, fun hr => ?resets, rfl,
    ⟨rfl, rfl, rfl, rfl⟩, ⟨rfl, rfl, rfl, rfl, rfl⟩, rfl⟩
  case captures => simp [hr, Status.tick_strobe _ _ _ _ _ hstrobe]
  case clears => simp [hr, Status.tick_clear _ _ _ _ hstrobe]
  case resets => simp [hr]

/-- Settles O29: the first read leaves the flag clear, or set by the strobe, and the second answers it. -/
theorem secondReadFindsTheFlagClear : Obligations.SecondReadFindsTheFlagClear := by
  intro wd wd2 s hr
  obtain ⟨t, ht, -, -, -, hcaptures, hclears, -⟩ := readingSampleRdyReturnsAndClears.2 wd s
  obtain ⟨u, hu, hanswer, -⟩ := readingSampleRdyReturnsAndClears.2 wd2 t
  refine ⟨t, u, ht, hu, fun hstrobe => ?clear, fun hstrobe => ?set⟩
  case clear => simp [hanswer, hclears hr hstrobe]
  case set => simp [hanswer, (hcaptures hr hstrobe).2]

/-- Settles O30: each read's effect holds the zero-extended copy and asks for no clearing read. -/
theorem copyReadsReturnTheCopies : Obligations.CopyReadsReturnTheCopies := by
  refine ⟨fun w => ⟨decodeBus_of_masked false 5, decodeBus_of_masked false 6, decodeBus_of_masked false 7,
    decodeBus_of_masked false 8⟩, fun wd s => ⟨?dac, ?val, ?idx, ?cnt⟩⟩
  case dac => exact ⟨_, rfl, zextByte_toNat _, rfl, rfl, tick_plain s rfl⟩
  case val | idx | cnt => exact ⟨_, rfl, zextReg_toNat _, rfl, rfl, tick_plain s rfl⟩

/-! ## The serial addresses -/

/-- The host takes the answer to a poll of address 0 only if the poll was its own (R232). -/
theorem hostSawReady_of_not_polling {s : State} (h : ¬(s.pins.hostTurn = true ∧ s.fw.point = .pollRx)) :
    s.hostSawReady = s.fw := by
  unfold State.hostSawReady
  rw [if_neg]
  simp only [Bool.and_eq_true, decide_eq_true_eq]
  exact fun hpolled => h hpolled.1

/-- The host takes the answer to a read of address 1 only if the read was its own (R232, R233). -/
theorem hostTookByte_of_not_reading {s : State} (h : ¬(s.pins.hostTurn = true ∧ s.fw.point = .readRx)) :
    s.hostTookByte = s.fw := by
  unfold State.hostTookByte
  rw [if_neg]
  simpa only [Bool.and_eq_true, decide_eq_true_eq] using h

/-- Settles O31: each read's effect holds the serial input of the tick and its bit of `ser_rd`. -/
theorem serialReadsPassThrough : Obligations.SerialReadsPassThrough := by
  refine ⟨fun w => ⟨decodeBus_of_masked false 0, decodeBus_of_masked false 1, decodeBus_of_masked false 2⟩,
    fun wd s => ⟨?rxRdy, ?rxData, ?txAck⟩⟩
  case rxRdy =>
    exact ⟨_, rfl, zextBit_eq _, rfl, rfl, ⟨rfl, rfl⟩, ⟨rfl, rfl, rfl, rfl⟩, ⟨rfl, rfl, rfl, rfl, rfl⟩,
      hostSawReady_of_not_polling⟩
  case rxData =>
    exact ⟨_, rfl, zextByte_toNat _, rfl, rfl, ⟨rfl, rfl⟩, ⟨rfl, rfl, rfl, rfl⟩, ⟨rfl, rfl, rfl, rfl, rfl⟩,
      hostTookByte_of_not_reading⟩
  case txAck => exact ⟨_, rfl, zextBit_eq _, rfl, rfl, tick_plain s rfl⟩

/-- Settles O32: the effect of the write holds its byte, and does not look at `tx_ack`. -/
theorem transmitHandsTheByteOn : Obligations.TransmitHandsTheByteOn :=
  ⟨fun _ hword => decodeBus_of_masked true 3 hword, fun _ s => ⟨_, rfl, rfl, rfl, rfl, tick_plain s rfl⟩⟩

/-! ## Reserved commands, NOP -/

/-- Settles O33: the eight reads share one meaning. -/
theorem reservedReadsChangeNothing : Obligations.ReservedReadsChangeNothing := by
  intro wd s i hi
  have hexec : exec i s = .next (s.tick s.reservedReadEffect) := by
    fin_cases hi <;> rfl
  exact ⟨_, hexec, rfl, rfl, rfl, tick_plain s rfl⟩

/-- Settles O34: the fifteen writes share one meaning. -/
theorem reservedWritesAreIgnored : Obligations.ReservedWritesAreIgnored := by
  intro wd s i hi
  have hexec : exec i s = .next (s.tick s.idleEffect) := by
    fin_cases hi <;> rfl
  exact ⟨_, hexec, rfl, rfl, tick_plain s rfl⟩

/-- Settles O35: the effect of NOP does not look at the word's fields. -/
theorem nopIsTheBlocksTick : Obligations.NopIsTheBlocksTick :=
  fun _ _ _ s => ⟨_, rfl, rfl, rfl, tick_plain s rfl⟩

end Sys2Proof.Proofs
end

section
/-! The engine and the bus (R150, R247): over any run the engine is a function of its own state, the configuration and the inputs
`rst`, `sense`, `start`. -/

namespace Sys2Proof.Proofs

open Sys2Proof.Machine

/-- R150: the engine's tick reads `sense` and `start` of the inputs, and no others. -/
theorem engine_tick_congr (c : Cfg) (e : Engine) {i j : Inputs} (hsense : i.sense = j.sense) (hstart : i.start = j.start) :
    e.tick c i = e.tick c j := by
  rw [engine_tick_eq, engine_tick_eq, hsense, hstart]

/-- Two steps from one configuration and one engine, under inputs that agree on what the engine reads, end with one engine. -/
theorem step_engine_congr {s1 s2 t1 t2 : State} (hcfg : s1.cfg = s2.cfg) (hengine : s1.engine = s2.engine)
    (hpins : Inputs.EngineSame s1.pins s2.pins) (h1 : step s1 = .next t1) (h2 : step s2 = .next t2) :
    t1.engine = t2.engine := by
  obtain ⟨hrst, hsense, hstart⟩ := hpins
  rw [(step_is_engine_tick s1 t1 h1).1, (step_is_engine_tick s2 t2 h2).1, hrst, hcfg, hengine,
    engine_tick_congr s2.cfg s2.engine hsense hstart]

/-- R21: a run keeps the configuration and the host's parameters. -/
theorem run_constants {n : Nat} {s t : State} (h : s.run n = .next t) : t.cfg = s.cfg ∧ t.params = s.params := by
  induction n generalizing t with
  | zero =>
    cases h
    exact ⟨rfl, rfl⟩
  | succ n ih =>
    obtain ⟨u, hu, hstep⟩ := State.run_last n s t h
    obtain ⟨hcfg, hparams⟩ := stepKeepsTheConstants u t hstep
    exact ⟨hcfg.trans (ih hu).1, hparams.trans (ih hu).2⟩

/-- Where the known inputs of two runs agree on what the engine reads, so do the pins that the runs have come to. -/
theorem run_pins_engineSame {n : Nat} {s1 s2 t1 t2 : State} (hpins : Inputs.EngineSame s1.pins s2.pins)
    (hstim : List.Forall₂ Inputs.EngineSame s1.stim s2.stim) (hn : n ≤ s1.stim.length)
    (h1 : s1.run n = .next t1) (h2 : s2.run n = .next t2) : Inputs.EngineSame t1.pins t2.pins := by
  have hall : List.Forall₂ Inputs.EngineSame (s1.pins :: s1.stim) (s2.pins :: s2.stim) := .cons hpins hstim
  have hlen1 : n < (s1.pins :: s1.stim).length := Nat.lt_succ_of_le hn
  have hlen2 : n < (s2.pins :: s2.stim).length := hall.length_eq ▸ hlen1
  rw [State.run_pins n s1 t1 _ h1 (List.getElem?_eq_getElem hlen1),
    State.run_pins n s2 t2 _ h2 (List.getElem?_eq_getElem hlen2)]
  exact hall.get hlen1 hlen2

/-- Settles O43, by induction on the number of ticks: the last step of each run starts from one configuration and one engine. -/
theorem engineIgnoresTheBus : Obligations.EngineIgnoresTheBus := by
  intro n s1 s2 t1 t2 hcfg hengine hpins hstim hn h1 h2
  induction n generalizing t1 t2 with
  | zero =>
    cases h1
    cases h2
    exact hengine
  | succ n ih =>
    obtain ⟨u1, hu1, hstep1⟩ := State.run_last n s1 t1 h1
    obtain ⟨u2, hu2, hstep2⟩ := State.run_last n s2 t2 h2
    have hlen : n ≤ s1.stim.length := Nat.le_of_succ_le_succ hn
    have hcfg' : u1.cfg = u2.cfg := by rw [(run_constants hu1).1, (run_constants hu2).1, hcfg]
    exact step_engine_congr hcfg' (ih u1 u2 (Nat.le_of_succ_le hn) hu1 hu2)
      (run_pins_engineSame hpins hstim hlen hu1 hu2) hstep1 hstep2

end Sys2Proof.Proofs
end

section
/-! The host's program (R232 to R241), bus command by bus command: what the command at each point asks of the block, how the host
takes the answer, and the tick of a command byte that results. -/

namespace Sys2Proof.Proofs

open Sys2Proof.Machine

/-! ## What the host's bus command asks of the block (R232) -/

/-- The copy register of an ADC field (R212 to R214). -/
def adcCopy (st : Status) : AdcField → Nat
  | .val => st.adcValCopy
  | .idx => st.adcIdxCopy
  | .cnt => st.adcCntCopy

section
variable (s : State) {fw : Firmware}

theorem busEffect_pollSample (h : fw.point = .pollSample) : s.busEffect fw.word = s.clearingReadEffect := by
  simp [Firmware.word, h, State.busEffect, readWord]

theorem busEffect_readDac (h : fw.point = .readDac) :
    s.busEffect fw.word = s.readEffect (zextByte s.status.dacValCopy) := by
  simp [Firmware.word, h, State.busEffect, readWord]

theorem busEffect_readAdc {f : AdcField} (h : fw.point = .readAdc f) :
    s.busEffect fw.word = s.readEffect (zextReg (adcCopy s.status f)) := by
  cases f <;> simp [Firmware.word, h, State.busEffect, readWord, AdcField.addr, adcCopy]

theorem busEffect_pollTx {x : SendByte} (h : fw.point = .pollTx x) :
    s.busEffect fw.word = s.serialReadEffect 2 (zextBit s.pins.txAck) := by
  simp [Firmware.word, h, State.busEffect, readWord]

theorem busEffect_send {x : SendByte} (h : fw.point = .send x) :
    s.busEffect fw.word = s.transmitEffect (fw.byteOf x) := by
  simp [Firmware.word, h, State.busEffect, writeWord]

/-- Of the commands of its primitives only `WR_UART_TX_DATA` has the host put a byte on the wire. -/
theorem busEffect_word_txWe : (s.busEffect fw.word).txWe = true ↔ ∃ x, fw.point = .send x := by
  unfold Firmware.word
  cases fw.point with
  | readAdc f => cases f <;> simp [State.busEffect, readWord, AdcField.addr]
  | _ => simp [State.busEffect, readWord, writeWord]

end

/-! ## The transitions of the host (R234 to R240) -/

theorem filterPasses_iff (sel : BitVec 3) (wait dac : Byte) :
    filterPasses sel wait dac = true ↔ sel = 0 ∨ dac = wait := by
  simp [filterPasses]

section
variable {fw : Firmware} {sel : BitVec 3} {wait : Byte}

/-- R234: in IDLE a mismatch waits for the next sample. -/
theorem gotSample_of_mismatch (hidle : fw.stage = .idle)
    (hfilter : ¬filterPasses sel wait fw.dacVal = true) : fw.gotSample sel wait = { fw with point := .pollSample } := by
  simp [Firmware.gotSample, hidle, hfilter]

/-- R234, R241: a sample that passes the filter, and every sample outside IDLE, is sent. -/
theorem gotSample_of_pass (h : fw.stage = .idle → filterPasses sel wait fw.dacVal = true) :
    fw.gotSample sel wait = fw.startSample := by
  rw [Firmware.gotSample, if_neg]
  simpa using h

end

section
variable (fw : Firmware) (p : HostParams) (sel : BitVec 3) (wait : Byte)

/-- The host with another `adc_val`. -/
def withAdcVal (fw : Firmware) (v : ReadData) : Firmware := { fw with adcVal := v }

/-- A read sample is sent or discarded. -/
theorem gotSample_cases :
    fw.gotSample sel wait = { fw with point := .pollSample } ∨ fw.gotSample sel wait = fw.startSample := by
  unfold Firmware.gotSample
  split_ifs
  · exact .inl rfl
  · exact .inr rfl

/-- The filter changes none of the host's data. -/
theorem gotSample_data : (fw.gotSample sel wait).dacVal = fw.dacVal ∧ (fw.gotSample sel wait).adcVal = fw.adcVal ∧
    (fw.gotSample sel wait).count = fw.count ∧ (fw.gotSample sel wait).xferType = fw.xferType := by
  rcases gotSample_cases fw sel wait with h | h <;> rw [h] <;> exact ⟨rfl, rfl, rfl, rfl⟩

/-- R240: WAIT_OR_FINISH counts the sample. -/
theorem finishSample_counted : Firmware.Counted p fw (fw.finishSample p) := by
  unfold Firmware.Counted Firmware.finishSample
  split_ifs <;> exact ⟨rfl, rfl, rfl⟩

theorem finishSample_data : (fw.finishSample p).dacVal = fw.dacVal ∧ (fw.finishSample p).adcVal = fw.adcVal ∧
    (fw.finishSample p).xferType = fw.xferType := by
  unfold Firmware.finishSample
  split_ifs <;> exact ⟨rfl, rfl, rfl⟩

/-- The host after the transmission of a byte of a sample (R235 to R240). -/
def afterSend (fw : Firmware) (p : HostParams) (m : XferMode) : SendByte → Firmware
  | .dac => fw.dispatchAdc p m
  | .adcLow => fw.afterLow p m
  | .adcHigh => fw.finishSample p

/-- R236: in every mode but mode 3 the low byte follows the DAC byte. -/
theorem afterSend_dac {m : XferMode} (hm : m ≠ .none) :
    afterSend fw p m .dac = { fw with stage := .loadAdc, point := .pollTx .adcLow } := by
  cases m with
  | val | idxOrCmp => rfl
  | none => exact absurd rfl hm

/-- R237, R238: but in modes 1 and 2 the low byte is the last. -/
theorem afterSend_adcLow {m : XferMode} (hm : m ≠ .idxOrCmp) : afterSend fw p m .adcLow = fw.finishSample p := by
  cases m with
  | val | none => rfl
  | idxOrCmp => exact absurd rfl hm

/-- Sending a byte changes none of the sample's data. -/
theorem afterSend_data (m : XferMode) (x : SendByte) : (afterSend fw p m x).dacVal = fw.dacVal ∧
    (afterSend fw p m x).adcVal = fw.adcVal ∧ (afterSend fw p m x).xferType = fw.xferType := by
  have hfinish := finishSample_data fw p
  cases x with
  | dac =>
    by_cases hm : m = .none
    · rw [hm]
      exact hfinish
    · rw [afterSend_dac fw p hm]
      exact ⟨rfl, rfl, rfl⟩
  | adcLow =>
    by_cases hm : m = .idxOrCmp
    · rw [hm]
      exact ⟨rfl, rfl, rfl⟩
    · rw [afterSend_adcLow fw p hm]
      exact hfinish
  | adcHigh => exact hfinish

end

/-- R237: `adc_val[7:0]`. -/
theorem byteOf_adcLow_toNat (fw : Firmware) : (fw.byteOf .adcLow).toNat = fw.adcVal.toNat % 256 := by
  simp [Firmware.byteOf]

/-- R238: `adc_val >> 8`. -/
theorem byteOf_adcHigh_toNat (fw : Firmware) : (fw.byteOf .adcHigh).toNat = fw.adcVal.toNat / 256 := by
  simp [Firmware.byteOf, Nat.shiftRight_eq_div_pow]
  omega

/-! ## The answer to the command at each point (R232) -/

theorem flagSet_zextBit (v : Bool) : flagSet (zextBit v) = v := by
  cases v <;> rfl

section
variable {fw : Firmware} (p : HostParams) (m : XferMode) (sel : BitVec 3) (wait : Byte)

theorem advance_pollSample (h : fw.point = .pollSample) (ready : Bool) :
    fw.advance p m sel wait (zextBit ready) = { fw with point := if ready then .readDac else .pollSample } := by
  simp only [Firmware.advance, h, flagSet_zextBit]
  cases ready with
  | true => rfl
  | false => exact h ▸ rfl

theorem advance_readDac (h : fw.point = .readDac) (dac : Byte) :
    fw.advance p m sel wait (zextByte dac) = fw.afterDac p m dac := by
  have hdac : (zextByte dac).setWidth 8 = dac := BitVec.setWidth_setWidth_of_le dac (by decide)
  simp only [Firmware.advance, h, hdac]

theorem advance_readAdc {f : AdcField} (h : fw.point = .readAdc f) (rdata : ReadData) :
    fw.advance p m sel wait rdata = (withAdcVal fw rdata).gotSample sel wait := by
  simp only [Firmware.advance, h, withAdcVal]

theorem advance_pollTx {x : SendByte} (h : fw.point = .pollTx x) (ack : Bool) :
    fw.advance p m sel wait (zextBit ack) = { fw with point := if ack then .send x else .pollTx x } := by
  simp only [Firmware.advance, h, flagSet_zextBit]
  cases ack with
  | true => rfl
  | false => exact h ▸ rfl

theorem advance_send {x : SendByte} (h : fw.point = .send x) (rdata : ReadData) :
    fw.advance p m sel wait rdata = afterSend fw p m x := by
  cases x <;> simp only [Firmware.advance, h, afterSend]

end

/-! ## The tick of a command byte -/

/-- A command byte is the host command of its mode and its selector (R82). -/
theorem exec_decodeCmd (b : CmdByte) (s : State) : exec (decodeCmd b) s = hostCommand (modeOf b) b (CmdByte.sel b) s := by
  have hb := cmdByte_fields b
  unfold decodeCmd modeOf
  generalize CmdByte.mode b = mode at hb
  conv_rhs => rw [← hb]
  fin_cases mode <;> simp <;> rfl

/-- With a byte in hand and its selector in the table, a command byte's tick is the block's under the effect of the host's own
bus command, and the host takes that effect's answer. -/
theorem exec_decodeCmd_of_effect {b : CmdByte} {s : State} {eff : BusEffect} (hsel : selectorInTable (CmdByte.sel b) = true)
    (hl : s.fw.listening = false) (heff : s.busEffect s.fw.word = eff) :
    ∃ wait, waitValue (CmdByte.sel b) = some wait ∧ exec (decodeCmd b) s = .next ((s.tick eff).withFw
      (withByte (s.fw.advance s.params (modeOf b) (CmdByte.sel b) wait eff.rdata) b)) := by
  have hload : s.fw.load b = withByte s.fw b := by simp [Firmware.load, hl, withByte]
  obtain ⟨hnone, -⟩ | ⟨wait, hwait, hnext⟩ := hostCommand_cases (modeOf b) b (CmdByte.sel b) s
  · rw [← waitValue_isSome, hnone] at hsel
    cases hsel
  · refine ⟨wait, hwait, ?_⟩
    rw [exec_decodeCmd, hnext, hload, advance_withByte, word_withByte, heff]

/-- R232: the read of an ADC field stores the field and hands the sample to the filter. -/
theorem exec_decodeCmd_readAdc {b : CmdByte} {s : State} {f : AdcField} (hsel : selectorInTable (CmdByte.sel b) = true)
    (hpoint : s.fw.point = .readAdc f) :
    ∃ wait t, waitValue (CmdByte.sel b) = some wait ∧ exec (decodeCmd b) s = .next t ∧
      t.fw = withByte ((withAdcVal s.fw (zextReg (adcCopy s.status f))).gotSample (CmdByte.sel b) wait) b := by
  have hl : s.fw.listening = false := by simp [Firmware.listening, hpoint]
  obtain ⟨wait, hwait, hexec⟩ := exec_decodeCmd_of_effect hsel hl (busEffect_readAdc s hpoint)
  rw [advance_readAdc _ _ _ _ hpoint] at hexec
  exact ⟨wait, _, hwait, hexec, rfl⟩

/-- The read of an ADC field leaves the host's other data. -/
theorem exec_decodeCmd_readAdc_data {b : CmdByte} {s : State} {f : AdcField}
    (hsel : selectorInTable (CmdByte.sel b) = true) (hpoint : s.fw.point = .readAdc f) :
    ∃ t, exec (decodeCmd b) s = .next t ∧ t.fw.adcVal = BitVec.ofNat 16 (adcCopy s.status f) ∧
      t.fw.dacVal = s.fw.dacVal ∧ t.fw.count = s.fw.count ∧ t.fw.xferType = b := by
  obtain ⟨wait, t, -, hexec, hfw⟩ := exec_decodeCmd_readAdc hsel hpoint
  obtain ⟨hdac, hadc, hcount, -⟩ :=
    gotSample_data (withAdcVal s.fw (zextReg (adcCopy s.status f))) (CmdByte.sel b) wait
  exact ⟨t, hexec, by rw [hfw]; exact hadc, by rw [hfw]; exact hdac, by rw [hfw]; exact hcount, by rw [hfw]; rfl⟩

/-- The tick that sends a byte drives it on the serial port, and leaves the sample's data. -/
theorem exec_decodeCmd_send {b : CmdByte} {s : State} {x : SendByte} (hsel : selectorInTable (CmdByte.sel b) = true)
    (hpoint : s.fw.point = .send x) :
    ∃ t, exec (decodeCmd b) s = .next t ∧ t.out.txWe = true ∧ t.out.txData = s.fw.byteOf x ∧
      t.fw.dacVal = s.fw.dacVal ∧ t.fw.adcVal = s.fw.adcVal ∧ t.fw.xferType = b ∧
      t.fw = withByte (afterSend s.fw s.params (modeOf b) x) b := by
  have hl : s.fw.listening = false := by simp [Firmware.listening, hpoint]
  obtain ⟨wait, -, hexec⟩ := exec_decodeCmd_of_effect hsel hl (busEffect_send s hpoint)
  rw [advance_send _ _ _ _ hpoint] at hexec
  obtain ⟨hdac, hadc, -⟩ := afterSend_data s.fw s.params (modeOf b) x
  exact ⟨_, hexec, rfl, rfl, hdac, hadc, rfl, rfl⟩

/-! ## The statements -/

/-- Settles O47: at its two receiving points the host takes the answers to its own reads. -/
theorem hostReceivesACommandByte : Obligations.HostReceivesACommandByte := by
  intro wd s hturn
  refine ⟨fun hpoint => ⟨_, rfl, ?poll⟩, fun hpoint => ⟨_, rfl, ?read⟩⟩
  case poll =>
    simp only [State.withFw_fw, State.hostSawReady, hturn, hpoint]
    cases s.pins.rxRdy with
    | true => rfl
    | false => exact hpoint ▸ rfl
  case read => simp [State.hostTookByte, hturn, hpoint, Firmware.accept]

/-- Settles O48: each poll's effect holds the polled flag, and the sample poll's asks for the clear. -/
theorem hostPollsUntilOne : Obligations.HostPollsUntilOne := by
  intro b s hsel
  refine ⟨fun hpoint => ?sample, fun x hpoint => ?transmit⟩
  case sample =>
    have hl : s.fw.listening = false := by simp [Firmware.listening, hpoint]
    obtain ⟨wait, -, hexec⟩ := exec_decodeCmd_of_effect hsel hl (busEffect_pollSample s hpoint)
    refine ⟨_, hexec, zextBit_eq _, fun hr hstrobe => ?clears, ?host⟩
    case clears => simp [hr, Status.tick_clear _ _ _ _ hstrobe]
    case host =>
      rw [State.withFw_fw, State.clearingReadEffect_rdata, advance_pollSample _ _ _ _ hpoint]
      rfl
  case transmit =>
    have hl : s.fw.listening = false := by simp [Firmware.listening, hpoint]
    obtain ⟨wait, -, hexec⟩ := exec_decodeCmd_of_effect hsel hl (busEffect_pollTx s hpoint)
    refine ⟨_, hexec, zextBit_eq _, rfl, ?host⟩
    case host =>
      rw [State.withFw_fw, State.serialReadEffect_rdata, advance_pollTx _ _ _ _ hpoint]
      rfl

/-- Settles O49: the DAC byte is stored and the mode names the next read; the three fields are
`exec_decodeCmd_readAdc_data`. -/
theorem hostReadsTheSample : Obligations.HostReadsTheSample := by
  intro b s hsel
  refine ⟨fun hpoint => ?dac, exec_decodeCmd_readAdc_data hsel, exec_decodeCmd_readAdc_data hsel,
    exec_decodeCmd_readAdc_data hsel⟩
  have hl : s.fw.listening = false := by simp [Firmware.listening, hpoint]
  obtain ⟨wait, -, hexec⟩ := exec_decodeCmd_of_effect hsel hl (busEffect_readDac s hpoint)
  rw [State.readEffect_rdata, advance_readDac _ _ _ _ hpoint] at hexec
  refine ⟨_, hexec, rfl, rfl, rfl, rfl, fun hm => ⟨?_, rfl⟩, fun hm => ⟨?_, rfl⟩, fun hm => ⟨?_, rfl⟩⟩
  all_goals simp [withByte, Firmware.afterDac, HostParams.adcField, hm]

/-- Settles O50: the read of the ADC field goes through the filter with the table's entry. -/
theorem hostFiltersInIdleOnly : Obligations.HostFiltersInIdleOnly := by
  intro b s f v hpoint hv
  have hsel : selectorInTable (CmdByte.sel b) = true := by
    rw [← waitValue_isSome, waitValue, hv, Option.isSome_some]
  obtain ⟨wait, t, hwait, hexec, hfw⟩ := exec_decodeCmd_readAdc hsel hpoint
  obtain rfl : wait = v := Option.some.inj (hwait.symm.trans hv)
  generalize hread : withAdcVal s.fw (zextReg (adcCopy s.status f)) = read at hfw
  have hstage : read.stage = s.fw.stage := hread ▸ rfl
  have hdac : read.dacVal = s.fw.dacVal := hread ▸ rfl
  have hcount : read.count = s.fw.count := hread ▸ rfl
  obtain ⟨hdac', -, hcount', -⟩ := gotSample_data read (CmdByte.sel b) wait
  refine ⟨t, hexec, ?_, ?_, fun hidle hne hdiff => ?mismatch, fun hidle hpass => ?pass, fun hwaiting => ?burst⟩
  · rw [hfw]
    exact hdac'.trans hdac
  · rw [hfw]
    exact hcount'.trans hcount
  case mismatch =>
    have hfilter : ¬filterPasses (CmdByte.sel b) wait read.dacVal = true := by
      rw [filterPasses_iff, hdac]
      exact not_or.2 ⟨hne, hdiff⟩
    rw [hfw, gotSample_of_mismatch (hstage.trans hidle) hfilter]
    exact ⟨hstage.trans hidle, rfl⟩
  case pass =>
    have hfilter : filterPasses (CmdByte.sel b) wait read.dacVal = true := by rwa [filterPasses_iff, hdac]
    rw [hfw, gotSample_of_pass fun _ => hfilter]
    exact ⟨rfl, rfl⟩
  case burst =>
    rw [hfw, gotSample_of_pass fun hidle => by simp [hstage, hwaiting] at hidle]
    exact ⟨rfl, rfl⟩

/-- Settles O51: the tick sends the byte of its point, and the mode decides what follows it. -/
theorem hostSendsTheSample : Obligations.HostSendsTheSample := by
  intro b s hsel
  have hcounted := finishSample_counted s.fw s.params
  refine ⟨fun hpoint => ?dac, fun hpoint => ?low, fun hpoint => ?high⟩
  all_goals obtain ⟨t, hexec, hwe, hdata, hdac, hadc, hbyte, hfw⟩ := exec_decodeCmd_send hsel hpoint
  case dac =>
    refine ⟨t, hexec, hwe, hdata, hdac, hadc, hbyte, fun hm => ?goesOn, fun hm => ?counts⟩
    case goesOn =>
      rw [hfw, afterSend_dac _ _ hm]
      exact ⟨rfl, rfl, rfl⟩
    case counts =>
      rw [hfw, hm]
      exact hcounted
  case low =>
    refine ⟨t, hexec, hwe, by rw [hdata, byteOf_adcLow_toNat], hdac, hadc, hbyte, fun hm => ?goesOn, fun hm => ?counts⟩
    case goesOn =>
      rw [hfw, hm]
      exact ⟨rfl, rfl, rfl⟩
    case counts =>
      rw [hfw, afterSend_adcLow _ _ hm]
      exact hcounted
  case high =>
    refine ⟨t, hexec, hwe, by rw [hdata, byteOf_adcHigh_toNat], hdac, hadc, hbyte, ?_⟩
    rw [hfw]
    exact hcounted

/-- R240, R245: a host that has counted the last sample of a burst polls address 0 in its next turn. -/
theorem counted_last {p : HostParams} {before : Firmware} {t : State} (h : Firmware.Counted p before t.fw)
    (hlast : before.count + 1 = p.burstLen) :
    t.fw.stage = .idle ∧ t.fw.count = 0 ∧ (t.pins.hostTurn = true → decode t.fetchBytes = .ok (.rdUartRxRdy 0)) := by
  rw [Firmware.Counted, if_pos hlast] at h
  obtain ⟨hcount, hstage, hpoint⟩ := h
  obtain ⟨-, hpolls, -⟩ := theTicksOperation t
  exact ⟨hstage, hcount, fun hturn => hpolls hturn hpoint⟩

/-- Settles O52: by `hostSendsTheSample` the mode's last byte counts the sample. -/
theorem burstEndsInIdle : Obligations.BurstEndsInIdle := by
  intro b s hsel hlast hpoint
  obtain ⟨hdac, hlow, hhigh⟩ := hostSendsTheSample b s hsel
  rcases hpoint with ⟨hpoint, hm⟩ | ⟨hpoint, hm⟩ | ⟨hpoint, -⟩
  · obtain ⟨t, hexec, -, -, -, -, -, -, hcounted⟩ := hdac hpoint
    exact ⟨t, hexec, counted_last (hcounted hm) hlast⟩
  · obtain ⟨t, hexec, -, -, -, -, -, -, hcounted⟩ := hlow hpoint
    exact ⟨t, hexec, counted_last (hcounted (by simp [hm])) hlast⟩
  · obtain ⟨t, hexec, -, -, -, -, -, hcounted⟩ := hhigh hpoint
    exact ⟨t, hexec, counted_last hcounted hlast⟩

end Sys2Proof.Proofs
end

section
/-! The bytes of a sample and of a burst on the wire (R235 to R242): what a tick of a busy host sends, one sample under a host
that is never delayed, and the count of a burst's bytes, which every tick of every schedule keeps. -/

namespace Sys2Proof.Proofs

open Sys2Proof.Machine

/-! ## The bytes of a tick and of a run (R208) -/

/-- The byte a tick hands to the serial channel, if it hands one over. -/
def wireBytes (o : Outputs) : List Byte := if o.txWe then [o.txData] else []

theorem sentBytes_succ {n : Nat} {s t : State} (h : step s = .next t) :
    sentBytes (n + 1) s = wireBytes t.out ++ sentBytes n t := by
  simp only [sentBytes, h, wireBytes]

/-- The last tick of a run puts its byte after those of the ticks before it. -/
theorem sentBytes_last {n : Nat} {s u t : State} (hu : s.run n = .next u) (ht : step u = .next t) :
    sentBytes (n + 1) s = sentBytes n s ++ wireBytes t.out := by
  induction n generalizing s with
  | zero =>
    cases hu
    rw [sentBytes_succ ht]
    exact List.append_nil _
  | succ n ih =>
    obtain ⟨v, hv, hrun⟩ := State.run_succ_next n s u hu
    rw [sentBytes_succ hv, ih hrun, sentBytes_succ hv, List.append_assoc]

/-! ## The tick of a busy host -/

/-- The host's work on the byte in its hand keeps that byte. -/
theorem withByte_advance_self (fw : Firmware) (p : HostParams) (m : XferMode) (sel : BitVec 3) (wait : Byte)
    (rdata : ReadData) : withByte (fw.advance p m sel wait rdata) fw.xferType = fw.advance p m sel wait rdata :=
  (advance_withByte fw fw.xferType p m sel wait rdata).symm

/-- In its turn a host with a byte in hand performs that byte. -/
theorem step_of_busy {s : State} {eff : BusEffect} (hvalid : s.cfg.Valid) (hturn : s.pins.hostTurn = true)
    (hl : s.fw.listening = false) (hsel : selectorInTable (CmdByte.sel s.fw.xferType) = true)
    (heff : s.busEffect s.fw.word = eff) :
    ∃ wait, step s = .next ((s.tick eff).withFw
      (s.fw.advance s.params (modeOf s.fw.xferType) (CmdByte.sel s.fw.xferType) wait eff.rdata)) := by
  obtain ⟨wait, -, hexec⟩ := exec_decodeCmd_of_effect hsel hl heff
  rw [withByte_advance_self] at hexec
  have hcommand := decode_fetchBytes_of_busy s ((hostBusy_iff s).2 ⟨hturn, hl⟩)
  exact ⟨wait, (step_valid s _ hvalid hcommand).trans hexec⟩

/-- A step beside a busy host and no other master: a tick without a command, in which the host stays, or the host's own. -/
theorem step_cases_of_busy {s t : State} (h : step s = .next t) (honly : Inputs.HostOnly s.pins)
    (hl : s.fw.listening = false) :
    (t.fw = s.fw ∧ t.out.txWe = false) ∨
    ∃ wait, t.fw = s.fw.advance s.params (modeOf s.fw.xferType) (CmdByte.sel s.fw.xferType) wait
      (s.busEffect s.fw.word).rdata ∧ t.out.txWe = (s.busEffect s.fw.word).txWe := by
  obtain ⟨hvalid, i, hdecode, hexec⟩ := step_next s t h
  cases hturn : s.pins.hostTurn with
  | false =>
    have hen : s.pins.busEn = false := honly.resolve_left (by simp [hturn])
    have hnop := decode_fetchBytes_of_ports s hturn
    rw [Inputs.portWord, hen, decodeBus_busWord, if_neg Bool.false_ne_true, hdecode] at hnop
    rw [Except.ok.inj hnop] at hexec
    obtain rfl := Host.Outcome.next.inj hexec
    exact .inl ⟨rfl, rfl⟩
  | true =>
    have hcommand := decode_fetchBytes_of_busy s ((hostBusy_iff s).2 ⟨hturn, hl⟩)
    rw [hdecode] at hcommand
    rw [Except.ok.inj hcommand] at hexec
    cases hsel : selectorInTable (CmdByte.sel s.fw.xferType) with
    | true =>
      obtain ⟨wait, -, hnext⟩ := exec_decodeCmd_of_effect hsel hl rfl
      rw [withByte_advance_self] at hnext
      obtain rfl := Host.Outcome.next.inj (hnext.symm.trans hexec)
      exact .inr ⟨wait, rfl, rfl⟩
    | false =>
      have hpast : 5 ≤ (CmdByte.sel s.fw.xferType).toNat := by simpa [selectorInTable] using hsel
      cases (selectorPastTheTableIsRefused _ s hpast).symm.trans hexec

/-! ## One sample (R235 to R239) -/

/-- The host has a byte of mode `m` in hand, and the next `n` ticks are its turns, with the transmitter ready. -/
structure MaySend (m : XferMode) (n : Nat) (s : State) : Prop where
  valid : s.cfg.Valid
  selector : selectorInTable (CmdByte.sel s.fw.xferType) = true
  mode : modeOf s.fw.xferType = m
  inputs : s.InputsSatisfy n Inputs.HostMaySend

section
variable {m : XferMode} {n : Nat} {x : SendByte} {s t : State}

/-- A step in which the host keeps its byte uses up one of the ticks. -/
theorem maySend_step (h : MaySend m (n + 1) s) (hstep : step s = .next t) (hbyte : t.fw.xferType = s.fw.xferType) :
    MaySend m n t := by
  obtain ⟨hvalid, hsel, hmode, hinputs⟩ := h
  obtain ⟨-, hadvanced⟩ := step_is_engine_tick s t hstep
  exact ⟨(stepKeepsTheConstants s t hstep).1 ▸ hvalid, hbyte ▸ hsel, hbyte ▸ hmode, hinputs.tail hadvanced⟩

/-- The poll of a ready transmitter: nothing goes out, and the host is about to write (R232). -/
theorem step_pollTx (h : MaySend m (n + 1) s) (hpoint : s.fw.point = .pollTx x) :
    ∃ t, step s = .next t ∧ wireBytes t.out = [] ∧ MaySend m n t ∧ t.fw = { s.fw with point := .send x } := by
  have hl : s.fw.listening = false := by simp [Firmware.listening, hpoint]
  obtain ⟨hturn, hack⟩ := h.inputs.head
  obtain ⟨wait, hstep⟩ := step_of_busy h.valid hturn hl h.selector (busEffect_pollTx s hpoint)
  rw [State.serialReadEffect_rdata, advance_pollTx _ _ _ _ hpoint, hack] at hstep
  exact ⟨_, hstep, rfl, maySend_step h hstep rfl, rfl⟩

/-- The write: the byte goes out. -/
theorem step_send (h : MaySend m (n + 1) s) (hpoint : s.fw.point = .send x) :
    ∃ t, step s = .next t ∧ wireBytes t.out = [s.fw.byteOf x] ∧ MaySend m n t ∧ t.fw = afterSend s.fw s.params m x := by
  have hl : s.fw.listening = false := by simp [Firmware.listening, hpoint]
  obtain ⟨wait, hstep⟩ := step_of_busy h.valid h.inputs.head.1 hl h.selector (busEffect_send s hpoint)
  rw [advance_send _ _ _ _ hpoint, h.mode] at hstep
  obtain ⟨-, -, hbyte⟩ := afterSend_data s.fw s.params m x
  exact ⟨_, hstep, rfl, maySend_step h hstep hbyte, rfl⟩

/-- R235: a byte of a sample takes two ticks, and the host goes on from there. -/
theorem sentBytes_pollTx (h : MaySend m (n + 2) s) (hpoint : s.fw.point = .pollTx x) :
    ∃ t, sentBytes (n + 2) s = s.fw.byteOf x :: sentBytes n t ∧ MaySend m n t ∧
      t.fw = afterSend { s.fw with point := .send x } s.params m x := by
  obtain ⟨u, hpoll, hnone, hu, hufw⟩ := step_pollTx h hpoint
  obtain ⟨t, hsend, hone, ht, htfw⟩ := step_send hu (x := x) (by rw [hufw])
  obtain ⟨-, hparams⟩ := stepKeepsTheConstants s u hpoll
  refine ⟨t, ?_, ht, by rw [htfw, hufw, hparams]⟩
  rw [sentBytes_succ hpoll, sentBytes_succ hsend, hnone, hone, hufw]
  cases x <;> rfl

end

theorem byteOf_adcLow (fw : Firmware) : fw.byteOf .adcLow = fw.adcVal.setWidth 8 :=
  BitVec.eq_of_toNat_eq (by simp [byteOf_adcLow_toNat])

theorem byteOf_adcHigh (fw : Firmware) : fw.byteOf .adcHigh = (fw.adcVal >>> 8).setWidth 8 := by
  apply BitVec.eq_of_toNat_eq
  simp [byteOf_adcHigh_toNat, Nat.shiftRight_eq_div_pow]
  omega

/-- Settles O56: two ticks for each byte of the mode. -/
theorem oneSampleOnTheWire : Obligations.OneSampleOnTheWire := by
  intro s hvalid hsel hpoint hinputs
  cases hmode : modeOf s.fw.xferType
  all_goals
    rw [hmode] at hinputs
    obtain ⟨t, hdac, ht, htfw⟩ := sentBytes_pollTx ⟨hvalid, hsel, hmode, hinputs⟩ hpoint
  case none => exact hdac
  case val =>
    obtain ⟨u, hlow, -, -⟩ := sentBytes_pollTx (n := 0) (x := .adcLow) ht (by rw [htfw]; rfl)
    rw [byteOf_adcLow, htfw] at hlow
    exact hdac.trans (congrArg _ hlow)
  case idxOrCmp =>
    obtain ⟨u, hlow, hu, hufw⟩ := sentBytes_pollTx (n := 2) (x := .adcLow) ht (by rw [htfw]; rfl)
    obtain ⟨v, hhigh, -, -⟩ := sentBytes_pollTx (n := 0) (x := .adcHigh) hu (by rw [hufw]; rfl)
    rw [byteOf_adcHigh, hufw, htfw] at hhigh
    rw [byteOf_adcLow, htfw, hhigh] at hlow
    exact hdac.trans (congrArg _ hlow)

/-! ## A burst (R240, R242, R245) -/

/-- After a tick that sends nothing the host is as far in its burst and in its sample as before. -/
theorem advance_of_not_sending (s : State) {fw : Firmware} (p : HostParams) (m : XferMode) (sel : BitVec 3) (wait : Byte)
    (hl : fw.listening = false) (hquiet : ¬∃ x, fw.point = .send x) :
    (fw.advance p m sel wait (s.busEffect fw.word).rdata).listening = false ∧
      (fw.advance p m sel wait (s.busEffect fw.word).rdata).xferType = fw.xferType ∧
      (fw.advance p m sel wait (s.busEffect fw.word).rdata).count = fw.count ∧
      (fw.advance p m sel wait (s.busEffect fw.word).rdata).point.sentOfSample = fw.point.sentOfSample := by
  cases hpoint : fw.point with
  | pollRx | readRx => simp [Firmware.listening, hpoint] at hl
  | pollSample =>
    rw [busEffect_pollSample s hpoint, State.clearingReadEffect_rdata, advance_pollSample _ _ _ _ hpoint]
    cases s.status.sampleRdy with
    | true | false => exact ⟨rfl, rfl, rfl, rfl⟩
  | readDac =>
    rw [busEffect_readDac s hpoint, State.readEffect_rdata, advance_readDac _ _ _ _ hpoint]
    exact ⟨rfl, rfl, rfl, rfl⟩
  | readAdc f =>
    rw [advance_readAdc _ _ _ _ hpoint]
    obtain hdiscarded | hstarted := gotSample_cases (withAdcVal fw (s.busEffect fw.word).rdata) sel wait
    · rw [hdiscarded]
      exact ⟨rfl, rfl, rfl, rfl⟩
    · rw [hstarted]
      exact ⟨rfl, rfl, rfl, rfl⟩
  | pollTx x =>
    rw [busEffect_pollTx s hpoint, State.serialReadEffect_rdata, advance_pollTx _ _ _ _ hpoint]
    cases s.pins.txAck with
    | true => cases x <;> exact ⟨rfl, rfl, rfl, rfl⟩
    | false => exact ⟨rfl, rfl, rfl, rfl⟩
  | send x => exact absurd ⟨x, hpoint⟩ hquiet

/-- The host carries out byte `b` and stands at a point of its mode, the bytes sent being those of the counted samples and of the
sample in progress. -/
structure InBurst (b : CmdByte) (sent : Nat) (fw : Firmware) : Prop where
  byte : fw.xferType = b
  point : fw.point.sentOfSample ≤ (modeOf b).adcBytes
  count : sent = fw.count * (1 + (modeOf b).adcBytes) + fw.point.sentOfSample

/-- The bytes sent since the host accepted byte `b`: once it listens again those of a whole burst, before that those `InBurst`
counts. -/
def BurstProgress (p : HostParams) (b : CmdByte) (sent : Nat) (fw : Firmware) : Prop :=
  (fw.listening = true → sent = p.burstLen * (1 + (modeOf b).adcBytes)) ∧ (fw.listening = false → InBurst b sent fw)

section
variable {p : HostParams} {b : CmdByte} {sent : Nat} {fw : Firmware}

/-- R240: with its last byte a sample is counted, and the last sample makes the burst whole. -/
theorem finishSample_progress (hbyte : fw.xferType = b) (hsent : sent = (fw.count + 1) * (1 + (modeOf b).adcBytes)) :
    BurstProgress p b sent (fw.finishSample p) := by
  unfold Firmware.finishSample
  split_ifs with hlast
  · exact ⟨fun _ => hlast ▸ hsent, nofun⟩
  · exact ⟨nofun, fun _ => ⟨hbyte, Nat.zero_le _, hsent⟩⟩

/-- A byte that does not end its sample is one byte more of it. -/
theorem inBurst_of_next_byte (h : InBurst b sent fw) {gw : Firmware} (hbyte : gw.xferType = fw.xferType)
    (hcount : gw.count = fw.count) (hpoint : gw.point.sentOfSample = fw.point.sentOfSample + 1)
    (hmode : gw.point.sentOfSample ≤ (modeOf b).adcBytes) : InBurst b (sent + 1) gw :=
  ⟨hbyte.trans h.byte, hmode, by rw [hcount, hpoint, h.count, Nat.add_assoc]⟩

/-- R235 to R240: the byte sent is the sample's next, or its last. -/
theorem afterSend_progress (h : InBurst b sent fw) {x : SendByte} (hpoint : fw.point = .send x) :
    BurstProgress p b (sent + 1) (afterSend fw p (modeOf b) x) := by
  have ⟨hbyte, hplace, hcount⟩ := h
  have hfinish (hlast : fw.point.sentOfSample = (modeOf b).adcBytes) :
      BurstProgress p b (sent + 1) (fw.finishSample p) :=
    finishSample_progress hbyte (by rw [hcount, hlast, Nat.succ_mul, Nat.add_assoc, Nat.add_comm 1])
  cases x with
  | dac =>
    cases hmode : modeOf b with
    | val | idxOrCmp =>
      refine ⟨nofun, fun _ => inBurst_of_next_byte h rfl rfl (by rw [hpoint]; rfl) ?_⟩
      rw [hmode]
      change 1 ≤ XferMode.adcBytes _
      decide
    | none => exact hfinish (by rw [hpoint, hmode]; rfl)
  | adcLow =>
    cases hmode : modeOf b with
    | val => exact hfinish (by rw [hpoint, hmode]; rfl)
    | idxOrCmp =>
      refine ⟨nofun, fun _ => inBurst_of_next_byte h rfl rfl (by rw [hpoint]; rfl) ?_⟩
      rw [hmode]
      exact le_rfl
    | none => simp [hpoint, hmode, Point.sentOfSample, XferMode.adcBytes] at hplace
  | adcHigh =>
    refine hfinish (le_antisymm hplace ?_)
    rw [hpoint]
    cases modeOf b <;> decide

end

/-- A tick of a burst, in the host's turn or not, adds its byte to the count. -/
theorem step_progress {s t : State} {b : CmdByte} {sent : Nat} (h : InBurst b sent s.fw) (hstep : step s = .next t)
    (honly : Inputs.HostOnly s.pins) (hl : s.fw.listening = false) :
    BurstProgress s.params b (sent + (wireBytes t.out).length) t.fw := by
  obtain ⟨hfw, hwe⟩ | ⟨wait, hfw, hwe⟩ := step_cases_of_busy hstep honly hl
  · rw [hfw, wireBytes, hwe]
    exact ⟨fun hlistening => by simp [hl] at hlistening, fun _ => h⟩
  · rw [h.byte] at hfw
    by_cases hsending : ∃ x, s.fw.point = .send x
    · rw [(busEffect_word_txWe s).2 hsending] at hwe
      obtain ⟨x, hpoint⟩ := hsending
      rw [hfw, wireBytes, hwe, advance_send _ _ _ _ hpoint]
      exact afterSend_progress h hpoint
    · rw [Bool.eq_false_iff.2 (mt (busEffect_word_txWe s).1 hsending)] at hwe
      obtain ⟨hl', hbyte, hcount, hpoint⟩ :=
        advance_of_not_sending s s.params (modeOf b) (CmdByte.sel b) wait hl hsending
      rw [← hfw] at hl' hbyte hcount hpoint
      rw [wireBytes, hwe]
      exact ⟨fun hlistening => by simp [hl'] at hlistening,
        fun _ => ⟨hbyte.trans h.byte, hpoint ▸ h.point, by rw [hcount, hpoint]; exact h.count⟩⟩

/-- The pins after `n` ticks are among the inputs known for `n + 1`. -/
theorem run_pins_satisfy {n : Nat} {s u : State} {P : Inputs → Prop} (hs : s.InputsSatisfy (n + 1) P)
    (hu : s.run n = .next u) : P u.pins := by
  obtain ⟨hknown, hall⟩ := hs
  have hlen : n < (s.pins :: s.stim).length := by simpa using hknown
  have hi : (s.pins :: s.stim)[n]? = some (s.pins :: s.stim)[n] := List.getElem?_eq_getElem hlen
  rw [State.run_pins n s u _ hu hi]
  exact hall _ (List.mem_iff_getElem?.2 ⟨n, by rw [List.getElem?_take_of_lt n.lt_succ_self, hi]⟩)

/-- From the acceptance of a command byte the count holds after every tick, until the host listens. -/
theorem run_progress {n : Nat} {s t : State} (hpoint : s.fw.point = .pollSample) (hcount : s.fw.count = 0)
    (hs : s.InputsSatisfy n Inputs.HostOnly) (hl : ∀ k u, k < n → s.run k = .next u → u.fw.listening = false)
    (ht : s.run n = .next t) : BurstProgress s.params s.fw.xferType (sentBytes n s).length t.fw := by
  induction n generalizing t with
  | zero =>
    cases ht
    have hl : s.fw.listening = false := by simp [Firmware.listening, hpoint]
    refine ⟨fun hlistening => by simp [hl] at hlistening, fun _ => ⟨rfl, ?_, ?_⟩⟩
    · rw [hpoint]
      exact Nat.zero_le _
    · rw [hpoint, hcount, Nat.zero_mul]
      rfl
  | succ n ih =>
    obtain ⟨u, hu, hstep⟩ := State.run_last n s t ht
    have hlu : u.fw.listening = false := hl n u n.lt_succ_self hu
    obtain ⟨-, hburst⟩ := ih (hs.mono n.le_succ) (fun k v hk => hl k v (Nat.lt_succ_of_lt hk)) hu
    rw [sentBytes_last hu hstep, List.length_append, ← (run_constants hu).2]
    exact step_progress (hburst hlu) hstep (run_pins_satisfy hs hu) hlu

/-- Settles O57, by `run_progress`: whatever the schedule, the number of bytes sent is a function of the host's place. -/
theorem burstByteCount : Obligations.BurstByteCount := by
  intro n s t _ hpoint hcount hs hl ht
  obtain ⟨hwhole, hburst⟩ := run_progress hpoint hcount hs hl ht
  exact ⟨hwhole, fun hlt => (hburst hlt).count⟩

end Sys2Proof.Proofs
end

section
/-! Where a step stops (60_exceptions.md R260, R263): on an invalid configuration, or on a command byte in the host's hand whose
selector is past the table. A run meets such a byte only if the host began with it or received it. -/

namespace Sys2Proof.Proofs

open Sys2Proof.Machine

/-! ## The three outcomes of a step -/

/-- R118: no hardware exists for an invalid configuration. -/
theorem step_of_invalid {s : State} {e : ConfigError} (h : s.cfg.check = some e) : step s = .refused (.config e) := by
  simp only [step, h]

/-- R89 (a), U2: a host with an open selector in its hand has no step. -/
theorem step_of_open_selector {s : State} (hvalid : s.cfg.Valid) (hbusy : s.hostBusy = true)
    (hsel : selectorInTable (CmdByte.sel s.fw.xferType) = false) :
    step s = .refused (.selectorOpen (CmdByte.sel s.fw.xferType)) := by
  have hpast : 5 ≤ (CmdByte.sel s.fw.xferType).toNat := by simpa [selectorInTable] using hsel
  rw [step_valid s _ hvalid (decode_fetchBytes_of_busy s hbusy)]
  exact selectorPastTheTableIsRefused _ s hpast

/-- A tick without a command byte in hand performs its BUS word. -/
theorem step_of_not_busy {s : State} (hvalid : s.cfg.Valid) (hbusy : s.hostBusy = false) :
    step s = exec (decodeBus s.tickWord) s :=
  step_valid s _ hvalid (decode_fetchBytes_of_not_busy s hbusy)

/-- R260: there is no other way for a step to stop. -/
theorem step_completes {s : State} (hvalid : s.cfg.Valid)
    (hsel : s.hostBusy = true → selectorInTable (CmdByte.sel s.fw.xferType) = true) : ∃ t, step s = .next t := by
  cases hbusy : s.hostBusy with
  | true =>
    obtain ⟨hturn, hl⟩ := (hostBusy_iff s).1 hbusy
    obtain ⟨wait, hstep⟩ := step_of_busy hvalid hturn hl (hsel hbusy) rfl
    exact ⟨_, hstep⟩
  | false =>
    obtain ⟨fw, hexec⟩ := exec_decodeBus s.tickWord s
    exact ⟨_, (step_of_not_busy hvalid hbusy).trans hexec⟩

/-! ## The byte in the host's hand after a step -/

/-- A bus command moves the host in the receive primitive or not at all (R232). -/
theorem exec_decodeBus_fw (w : BusWord) (s : State) :
    ∃ t, exec (decodeBus w) s = .next t ∧ (t.fw = s.fw ∨ t.fw = s.hostSawReady ∨ t.fw = s.hostTookByte) := by
  unfold decodeBus
  cases BusWord.en w with
  | false => exact ⟨_, rfl, .inl rfl⟩
  | true =>
    generalize BusWord.addr w = a
    cases BusWord.we w with
    | true => fin_cases a <;> exact ⟨_, rfl, .inl rfl⟩
    | false =>
      fin_cases a
      · exact ⟨_, rfl, .inr (.inl rfl)⟩
      · exact ⟨_, rfl, .inr (.inr rfl)⟩
      all_goals exact ⟨_, rfl, .inl rfl⟩

/-- The answer to a poll puts no byte into the host's hand. -/
theorem hostSawReady_runnable {s : State} (h : s.fw.Runnable) : s.hostSawReady.Runnable := by
  unfold State.hostSawReady
  split_ifs
  · exact nofun
  · exact h

/-- The byte a read puts into the host's hand is that of the serial input. -/
theorem hostTookByte_runnable {s : State} (h : s.fw.Runnable) (hrx : selectorInTable (CmdByte.sel s.pins.rxData) = true) :
    s.hostTookByte.Runnable := by
  unfold State.hostTookByte
  split_ifs
  · exact fun _ => hrx
  · exact h

/-- A host at work keeps the byte in its hand. -/
theorem advance_xferType (fw : Firmware) (p : HostParams) (m : XferMode) (sel : BitVec 3) (wait : Byte) (rdata : ReadData) :
    (fw.advance p m sel wait rdata).xferType = fw.xferType :=
  (congrArg Firmware.xferType (withByte_advance_self fw p m sel wait rdata)).symm

/-- Out of its turn the host rests. -/
theorem step_fw_of_ports {s t : State} (hturn : s.pins.hostTurn = false) (h : step s = .next t) : t.fw = s.fw := by
  have hbusy : s.hostBusy = false := by simp [State.hostBusy, hturn]
  obtain ⟨u, hexec, hfw⟩ := exec_decodeBus_fw s.tickWord s
  rw [step_of_not_busy (step_next s t h).1 hbusy, hexec] at h
  cases h
  rw [hostSawReady_of_not_polling (by simp [hturn]), hostTookByte_of_not_reading (by simp [hturn])] at hfw
  simpa using hfw

/-- In its turn a host with a byte in hand keeps it, and a receiving one takes at most the byte of the serial input. -/
theorem step_fw_runnable {s t : State} (hfw : s.fw.Runnable) (hrx : selectorInTable (CmdByte.sel s.pins.rxData) = true)
    (h : step s = .next t) : t.fw.Runnable := by
  obtain ⟨hvalid, -⟩ := step_next s t h
  cases hbusy : s.hostBusy with
  | true =>
    obtain ⟨hturn, hl⟩ := (hostBusy_iff s).1 hbusy
    obtain ⟨wait, hstep⟩ := step_of_busy hvalid hturn hl (hfw hl) rfl
    obtain rfl := Host.Outcome.next.inj (hstep.symm.trans h)
    intro _
    rw [State.withFw_fw, advance_xferType]
    exact hfw hl
  | false =>
    obtain ⟨u, hexec, hmove⟩ := exec_decodeBus_fw s.tickWord s
    rw [step_of_not_busy hvalid hbusy, hexec] at h
    cases h
    obtain hrests | hready | htook := hmove
    · rwa [hrests]
    · exact hready ▸ hostSawReady_runnable hfw
    · exact htook ▸ hostTookByte_runnable hfw hrx

/-- A later tick's input that is safe for the host before a step is safe for it after the step. -/
theorem hostRuns_after_step {s t : State} (hpins : Inputs.HostRuns s.fw s.pins) (h : step s = .next t) (i : Inputs)
    (hi : Inputs.HostRuns s.fw i) : Inputs.HostRuns t.fw i := by
  cases hturn : s.pins.hostTurn with
  | false => rwa [step_fw_of_ports hturn h]
  | true =>
    obtain ⟨hfw, hrx⟩ := hpins hturn
    exact fun hlater => ⟨step_fw_runnable hfw hrx h, (hi hlater).2⟩

/-! ## The statement -/

/-- A run in which the host's turns meet no open selector completes. -/
theorem run_completes {s : State} {n : Nat} (hvalid : s.cfg.Valid) (hs : s.InputsSatisfy n (Inputs.HostRuns s.fw)) :
    ∃ t, s.run n = .next t := by
  induction n generalizing s with
  | zero => exact ⟨s, rfl⟩
  | succ n ih =>
    have hsel : s.hostBusy = true → selectorInTable (CmdByte.sel s.fw.xferType) = true := fun hbusy =>
      have ⟨hturn, hl⟩ := (hostBusy_iff s).1 hbusy
      (hs.head hturn).1 hl
    obtain ⟨u, hu⟩ := step_completes hvalid hsel
    obtain ⟨-, hadvanced⟩ := step_is_engine_tick s u hu
    have hvalid' : u.cfg.Valid := (stepKeepsTheConstants s u hu).1 ▸ hvalid
    obtain ⟨t, ht⟩ := ih hvalid' ((hs.tail hadvanced).imp (hostRuns_after_step hs.head hu))
    exact ⟨t, (State.run_succ n s u hu).trans ht⟩

/-- Settles O8: the branches of a step, and over a run the safety of the byte in the host's hand, which every step keeps. -/
theorem stepStopsOnlyWhereTheSpecRefuses : Obligations.StepStopsOnlyWhereTheSpecRefuses :=
  ⟨fun _ => ⟨fun _ => step_of_invalid, step_of_open_selector, step_completes⟩, fun _ _ => run_completes⟩

end Sys2Proof.Proofs
end

section
/-! Reset (R290, R292) and the conversion period (R310): the tick with `rst` high, and the run of the engine from a discharge
through the charge window that follows it to the strobe, whoever drives the bus. -/

namespace Sys2Proof.Proofs

open Sys2Proof.Machine

/-! ## The reset tick (R290) -/

/-- R290: with `rst` high the block's next state is the reset state, whatever the tick's command asks for. -/
theorem tick_of_rst {s : State} (hr : s.pins.rst = true) (b : BusEffect) :
    (s.tick b).engine = Engine.reset ∧ (s.tick b).status = Status.reset := by
  simp [hr]

/-- Settles O38: an operation is one tick of the block, and the outputs do not look at `rst`. -/
theorem resetTickClearsTheBlock : Obligations.ResetTickClearsTheBlock := by
  intro i s hw hr
  obtain ⟨b, fw, hexec⟩ := exec_wellFormed i s hw
  obtain ⟨hengine, hstatus⟩ := tick_of_rst hr b
  exact ⟨_, hexec, hengine, hstatus, rfl, rfl, rfl, rfl⟩

/-! ## One conversion -/

/-- The engine `k` ticks after the first tick of a discharge whose done tick starts a conversion: in that discharge, with
`avail` as it stood, in the charge window, or in the discharge that ends in the strobe. -/
inductive Conversion (c : Cfg) (avail : Bool) : Nat → Engine → Prop
  | before {n : Nat} {e : Engine} (hphase : DischargedFor n e) (hn : n ≤ c.dischargeCnt) (hup : e.upCnt = 0)
      (havail : e.avail = avail) : Conversion c avail n e
  | window {n : Nat} {e : Engine} (hphase : ChargedFor n e) (hn : n ≤ c.maxCnt) (hdown : e.downCnt = 0)
      (havail : e.avail = e.latched) : Conversion c avail (c.dischargeCnt + 1 + n) e
  | after {n : Nat} {e : Engine} (hphase : DischargedFor n e) (hn : n ≤ c.dischargeCnt) (havail : e.avail = true) :
      Conversion c avail (c.dischargeCnt + 1 + c.maxCnt + 1 + n) e

section
variable {c : Cfg} {avail : Bool} {k n : Nat} {e : Engine}

theorem conversion_tick_before {i : Inputs} (hstart : i.start = true) (hphase : DischargedFor n e)
    (hn : n ≤ c.dischargeCnt) (hup : e.upCnt = 0) (havail : e.avail = avail) :
    Conversion c avail (n + 1) (e.tick c i) := by
  rcases hn.lt_or_eq with hlt | rfl
  · have hnext := dischargedFor_tick i hphase hlt
    obtain ⟨hdis, rfl⟩ := hphase
    rw [engine_tick_discharging i hdis hlt.ne] at hnext ⊢
    exact .before hnext hlt hup havail
  · obtain ⟨hdis, hlast⟩ := hphase
    rw [engine_tick_done i hdis hlast]
    exact .window (n := 0) ⟨if_pos hstart, hup⟩ (Nat.zero_le _) rfl (if_pos hstart)

/-- R142, R146: a window's timeout tick latches what the window has not latched, so `avail` is high after it. -/
theorem conversion_tick_window (i : Inputs) (hphase : ChargedFor n e) (hn : n ≤ c.maxCnt) (hdown : e.downCnt = 0)
    (havail : e.avail = e.latched) : Conversion c avail (c.dischargeCnt + 1 + n + 1) (e.tick c i) := by
  rcases hn.lt_or_eq with hlt | rfl
  · have hnext := chargedFor_tick i hphase hlt
    obtain ⟨hcharging, rfl⟩ := hphase
    rw [engine_tick_charging i hcharging hlt.ne] at hnext ⊢
    exact .window hnext hlt hdown (by simp [havail])
  · obtain ⟨hcharging, hlast⟩ := hphase
    rw [engine_tick_timeout i hcharging hlast]
    exact .after (n := 0) ⟨rfl, hdown⟩ (Nat.zero_le _) (by simp [havail])

theorem conversion_tick_after (i : Inputs) (hphase : DischargedFor n e) (hlt : n < c.dischargeCnt)
    (havail : e.avail = true) : Conversion c avail (c.dischargeCnt + 1 + c.maxCnt + 1 + n + 1) (e.tick c i) := by
  have hnext := dischargedFor_tick i hphase hlt
  obtain ⟨hdis, rfl⟩ := hphase
  rw [engine_tick_discharging i hdis hlt.ne] at hnext ⊢
  exact .after hnext hlt havail

theorem conversion_tick {i : Inputs} (h : Conversion c avail k e) (hk : k < 2 * c.dischargeCnt + c.maxCnt + 2)
    (hstart : i.start = true) : Conversion c avail (k + 1) (e.tick c i) := by
  cases h with
  | before hphase hn hup havail => exact conversion_tick_before hstart hphase hn hup havail
  | window hphase hn hdown havail => exact conversion_tick_window i hphase hn hdown havail
  | after hphase hn havail => exact conversion_tick_after i hphase (by omega) havail

theorem doneOut_iff_of_dischargedFor (h : DischargedFor n e) : e.doneOut c = true ↔ n = c.dischargeCnt := by
  obtain ⟨hdis, rfl⟩ := h
  rw [Engine.doneOut_iff, and_iff_right hdis]

theorem doneOut_of_chargedFor (h : ChargedFor n e) : e.doneOut c = false := by simp [Engine.doneOut, h.1]

/-- A conversion goes through two done ticks, the last of each discharge. -/
theorem conversion_doneOut_iff (h : Conversion c avail k e) :
    e.doneOut c = true ↔ k = c.dischargeCnt ∨ k = 2 * c.dischargeCnt + c.maxCnt + 2 := by
  cases h with
  | before hphase hn _ _ | after hphase hn _ =>
    rw [doneOut_iff_of_dischargedFor hphase]
    omega
  | window hphase hn _ _ =>
    rw [doneOut_of_chargedFor hphase, Bool.false_eq_true, false_iff]
    omega

/-- The second of the done ticks is a strobe, and the first is one if `avail` was high before the conversion. -/
theorem conversion_strobe_iff (h : Conversion c avail k e) :
    e.strobe c = true ↔ (k = c.dischargeCnt ∧ avail = true) ∨ k = 2 * c.dischargeCnt + c.maxCnt + 2 := by
  rw [Engine.strobe, Bool.and_eq_true, conversion_doneOut_iff h]
  cases h with
  | before _ hn _ havail =>
    have hlast : k ≠ 2 * c.dischargeCnt + c.maxCnt + 2 := by omega
    simp [havail, hlast]
  | @window n _ _ hn _ _ =>
    have hfirst : c.dischargeCnt + 1 + n ≠ c.dischargeCnt := by omega
    have hlast : c.dischargeCnt + 1 + n ≠ 2 * c.dischargeCnt + c.maxCnt + 2 := by omega
    simp [hfirst, hlast]
  | @after n _ _ _ havail =>
    have hfirst : c.dischargeCnt + 1 + c.maxCnt + 1 + n ≠ c.dischargeCnt := by omega
    simp [havail, hfirst]

end

/-- From tick `k0` of a conversion, a run without reset and with `start` high goes on through the conversion. -/
theorem conversion_run {s : State} {avail : Bool} {k0 n : Nat} (h0 : Conversion s.cfg avail k0 s.engine)
    (hn : k0 + n ≤ 2 * s.cfg.dischargeCnt + s.cfg.maxCnt + 2) (hs : s.InputsSatisfy n Inputs.Running) :
    s.AfterRun n fun t => t.cfg = s.cfg ∧ Conversion s.cfg avail (k0 + n) t.engine :=
  State.afterRun_engine Inputs.Running (fun _ hi => hi.1) (Conversion s.cfg avail) n k0 s hs
    (fun _ _ _ _ hk h hi => conversion_tick h (by omega) hi.2) h0

/-! ## The statements -/

/-- Settles O44: a done tick under the invariant is tick `discharge_cnt` of a conversion. -/
theorem conversionPeriod : Obligations.ConversionPeriod := by
  intro s k hinv hdone hs hpos hk
  obtain ⟨-, ⟨-, hclean, -⟩, -⟩ := hinv
  have hphase := (Engine.doneOut_iff _ _).1 hdone
  obtain ⟨hup, -⟩ := hclean.1 hphase.1
  have h0 : Conversion s.cfg s.engine.avail s.cfg.dischargeCnt s.engine := .before hphase le_rfl hup rfl
  refine (conversion_run h0 (by omega) (hs.mono hk)).imp fun t ⟨hcfg, ht⟩ => ?_
  rw [hcfg, conversion_doneOut_iff ht, conversion_strobe_iff ht]
  constructor <;> omega

/-- Settles O45: the reset engine is tick 0 of a conversion, with `avail` low. -/
theorem firstStrobeAfterReset : Obligations.FirstStrobeAfterReset := by
  intro s k _ hreset hs hk
  have h0 : Conversion s.cfg false 0 s.engine := by
    rw [hreset]
    exact .before ⟨rfl, rfl⟩ (Nat.zero_le _) rfl rfl
  refine (conversion_run h0 (by omega) (hs.mono hk)).imp fun t ⟨hcfg, ht⟩ => ?_
  rw [hcfg, conversion_doneOut_iff ht, conversion_strobe_iff ht, Nat.zero_add]
  simp

end Sys2Proof.Proofs
end
